-- ==== Sys2Proof/Word.lean ====
section
/-! DEFINITION. Words of the three operand widths, and the two sizes an attribute can have. -/

namespace Sys2Proof

/-- A byte: 8 bits (20_memory.md R61). -/
abbrev Byte := BitVec 8

/-- A word: 2 bytes (R61). -/
abbrev Word16 := BitVec 16

/-- A doubleword: 4 bytes (R61). -/
abbrev Word32 := BitVec 32

/-- The operand widths `w` of the instruction rows: 8, 16, 32 bits (00_scope.md R15). -/
inductive Width where
  | w8
  | w16
  | w32
deriving DecidableEq, Repr

/-- The width in bits. -/
@[reducible] def Width.bits : Width → Nat
  | .w8 => 8
  | .w16 => 16
  | .w32 => 32

/-- The width in bytes, the `n` of the memory rules. -/
@[reducible] def Width.bytes : Width → Nat
  | .w8 => 1
  | .w16 => 2
  | .w32 => 4

/-- The two values of OperandSize and of AddressSize (00_scope.md R9). -/
inductive Size where
  | s16
  | s32
deriving DecidableEq, Repr

/-- The other size: what a 66h or 67h byte selects (30_encoding.md R96). -/
def Size.other : Size → Size
  | .s16 => .s32
  | .s32 => .s16

end Sys2Proof
end

