-- ==== Sys2Proof/Syntax.lean ====
section
/-! DEFINITION. The instructions, one constructor per row of spec/opcode_table.json, over decoded operands:
register numbers, addressing forms and immediates. Sizes are resolved: a row of a given operand width is its
own constructor, and the address size is part of the addressing form. -/

namespace Sys2Proof

/-- The number of a general register in `GPR8`, `GPR16` or `GPR32` (10_state.md R21 to R23). -/
abbrev RegNum := BitVec 3

/-- The six segment registers (10_state.md R39). -/
inductive SegName where
  | cs
  | ds
  | es
  | fs
  | gs
  | ss
deriving DecidableEq, Repr

/-- The register sums of the 16-bit addressing forms, in the order of the ModR/M r/m field (30_encoding.md R102). -/
inductive Base16 where
  | bxSi
  | bxDi
  | bpSi
  | bpDi
  | si
  | di
  | bp
  | bx
deriving DecidableEq, Repr

/-- The displacement of a 16-bit addressing form: mod 00, 01, 10 (R102). -/
inductive Disp16 where
  | none
  | d8 (d : Byte)
  | d16 (d : Word16)
deriving DecidableEq, Repr

/-- An effective address with AddressSize 16 (R102). -/
inductive Addr16 where
  | base (b : Base16) (d : Disp16)
  | direct (d : Word16)
deriving DecidableEq, Repr

/-- The displacement of a 32-bit addressing form: mod 00, 01, 10 (30_encoding.md R101). -/
inductive Disp32 where
  | none
  | d8 (d : Byte)
  | d32 (d : Word32)
deriving DecidableEq, Repr

/-- An effective address with AddressSize 32 (R101). An `index` of `none` is the SIB field 100; `sibNoBase` is the
SIB field base = 101 with mod 00, whose base is a 32-bit displacement. -/
inductive Addr32 where
  | base (b : RegNum) (d : Disp32)
  | direct (d : Word32)
  | sib (scale : BitVec 2) (index : Option RegNum) (b : RegNum) (d : Disp32)
  | sibNoBase (scale : BitVec 2) (index : Option RegNum) (d : Word32)
deriving DecidableEq, Repr

/-- An addressing form of either AddressSize. -/
inductive EffAddr where
  | a16 (a : Addr16)
  | a32 (a : Addr32)
deriving DecidableEq, Repr

/-- AddressSize of an addressing form. -/
def EffAddr.size : EffAddr → Size
  | .a16 _ => .s16
  | .a32 _ => .s32

/-- A ModR/M memory operand: its addressing form and the segment override, if any (30_encoding.md R103). -/
structure MemRef where
  ea : EffAddr
  override : Option SegName
deriving DecidableEq, Repr

/-- An `r/m` operand: a register (mod = 11) or memory (30_encoding.md R100). -/
inductive RM where
  | reg (n : RegNum)
  | mem (m : MemRef)
deriving DecidableEq, Repr

/-- The instructions of spec/opcode_table.json. The operand-size attribute `osz` is an operand of the three rows
that exist once for both sizes and depend on it; the address size `asz` is one of the string rows. -/
inductive Instr where
  /-- SAHF (R130). -/
  | sahf
  /-- SAL_r_m8_1 (R150). -/
  | salRm8One (dst : RM)
  /-- SAL_r_m8_CL (R151). -/
  | salRm8Cl (dst : RM)
  /-- SAL_r_m8_imm8 (R152). -/
  | salRm8Imm8 (dst : RM) (imm : Byte)
  /-- SAL_r_m16_1 (R153). -/
  | salRm16One (dst : RM)
  /-- SAL_r_m16_CL (R154). -/
  | salRm16Cl (dst : RM)
  /-- SAL_r_m16_imm8 (R155). -/
  | salRm16Imm8 (dst : RM) (imm : Byte)
  /-- SAL_r_m32_1 (R156). -/
  | salRm32One (dst : RM)
  /-- SAL_r_m32_CL (R157). -/
  | salRm32Cl (dst : RM)
  /-- SAL_r_m32_imm8 (R158). -/
  | salRm32Imm8 (dst : RM) (imm : Byte)
  /-- SAR_r_m8_1 (R159). -/
  | sarRm8One (dst : RM)
  /-- SAR_r_m8_CL (R160). -/
  | sarRm8Cl (dst : RM)
  /-- SAR_r_m8_imm8 (R161). -/
  | sarRm8Imm8 (dst : RM) (imm : Byte)
  /-- SAR_r_m16_1 (R162). -/
  | sarRm16One (dst : RM)
  /-- SAR_r_m16_CL (R163). -/
  | sarRm16Cl (dst : RM)
  /-- SAR_r_m16_imm8 (R164). -/
  | sarRm16Imm8 (dst : RM) (imm : Byte)
  /-- SAR_r_m32_1 (R165). -/
  | sarRm32One (dst : RM)
  /-- SAR_r_m32_CL (R166). -/
  | sarRm32Cl (dst : RM)
  /-- SAR_r_m32_imm8 (R167). -/
  | sarRm32Imm8 (dst : RM) (imm : Byte)
  /-- SHL_r_m8_1 (R168). -/
  | shlRm8One (dst : RM)
  /-- SHL_r_m8_CL (R169). -/
  | shlRm8Cl (dst : RM)
  /-- SHL_r_m8_imm8 (R170). -/
  | shlRm8Imm8 (dst : RM) (imm : Byte)
  /-- SHL_r_m16_1 (R171). -/
  | shlRm16One (dst : RM)
  /-- SHL_r_m16_CL (R172). -/
  | shlRm16Cl (dst : RM)
  /-- SHL_r_m16_imm8 (R173). -/
  | shlRm16Imm8 (dst : RM) (imm : Byte)
  /-- SHL_r_m32_1 (R174). -/
  | shlRm32One (dst : RM)
  /-- SHL_r_m32_CL (R175). -/
  | shlRm32Cl (dst : RM)
  /-- SHL_r_m32_imm8 (R176). -/
  | shlRm32Imm8 (dst : RM) (imm : Byte)
  /-- SHR_r_m8_1 (R177). -/
  | shrRm8One (dst : RM)
  /-- SHR_r_m8_CL (R178). -/
  | shrRm8Cl (dst : RM)
  /-- SHR_r_m8_imm8 (R179). -/
  | shrRm8Imm8 (dst : RM) (imm : Byte)
  /-- SHR_r_m16_1 (R180). -/
  | shrRm16One (dst : RM)
  /-- SHR_r_m16_CL (R181). -/
  | shrRm16Cl (dst : RM)
  /-- SHR_r_m16_imm8 (R182). -/
  | shrRm16Imm8 (dst : RM) (imm : Byte)
  /-- SHR_r_m32_1 (R183). -/
  | shrRm32One (dst : RM)
  /-- SHR_r_m32_CL (R184). -/
  | shrRm32Cl (dst : RM)
  /-- SHR_r_m32_imm8 (R185). -/
  | shrRm32Imm8 (dst : RM) (imm : Byte)
  /-- SBB_AL_imm8 (R194). -/
  | sbbAlImm8 (imm : Byte)
  /-- SBB_AX_imm16 (R195). -/
  | sbbAxImm16 (imm : Word16)
  /-- SBB_EAX_imm32 (R196). -/
  | sbbEaxImm32 (imm : Word32)
  /-- SBB_r_m8_imm8 (R197). -/
  | sbbRm8Imm8 (dst : RM) (imm : Byte)
  /-- SBB_r_m16_imm16 (R198). -/
  | sbbRm16Imm16 (dst : RM) (imm : Word16)
  /-- SBB_r_m32_imm32 (R199). -/
  | sbbRm32Imm32 (dst : RM) (imm : Word32)
  /-- SBB_r_m16_imm8 (R200). -/
  | sbbRm16Imm8 (dst : RM) (imm : Byte)
  /-- SBB_r_m32_imm8 (R201). -/
  | sbbRm32Imm8 (dst : RM) (imm : Byte)
  /-- SBB_r_m8_r8 (R202). -/
  | sbbRm8R8 (dst : RM) (src : RegNum)
  /-- SBB_r_m16_r16 (R203). -/
  | sbbRm16R16 (dst : RM) (src : RegNum)
  /-- SBB_r_m32_r32 (R204). -/
  | sbbRm32R32 (dst : RM) (src : RegNum)
  /-- SBB_r8_r_m8 (R205). -/
  | sbbR8Rm8 (dst : RegNum) (src : RM)
  /-- SBB_r16_r_m16 (R206). -/
  | sbbR16Rm16 (dst : RegNum) (src : RM)
  /-- SBB_r32_r_m32 (R207). -/
  | sbbR32Rm32 (dst : RegNum) (src : RM)
  /-- SCAS_m8 (R219). -/
  | scasM8 (asz : Size)
  /-- SCAS_m16 (R220). -/
  | scasM16 (asz : Size)
  /-- SCAS_m32 (R221). -/
  | scasM32 (asz : Size)
  /-- SCASB (R222). -/
  | scasb (asz : Size)
  /-- SCASW (R223). -/
  | scasw (asz : Size)
  /-- SCASD (R224). -/
  | scasd (asz : Size)
  /-- SETA_r_m8 (R240). -/
  | seta (dst : RM)
  /-- SETAE_r_m8 (R241). -/
  | setae (dst : RM)
  /-- SETB_r_m8 (R242). -/
  | setb (dst : RM)
  /-- SETBE_r_m8 (R243). -/
  | setbe (dst : RM)
  /-- SETC_r_m8 (R244). -/
  | setc (dst : RM)
  /-- SETE_r_m8 (R245). -/
  | sete (dst : RM)
  /-- SETG_r_m8 (R246). -/
  | setg (dst : RM)
  /-- SETGE_r_m8 (R247). -/
  | setge (dst : RM)
  /-- SETL_r_m8 (R248). -/
  | setl (dst : RM)
  /-- SETLE_r_m8 (R249). -/
  | setle (dst : RM)
  /-- SETNA_r_m8 (R250). -/
  | setna (dst : RM)
  /-- SETNAE_r_m8 (R251). -/
  | setnae (dst : RM)
  /-- SETNB_r_m8 (R252). -/
  | setnb (dst : RM)
  /-- SETNBE_r_m8 (R253). -/
  | setnbe (dst : RM)
  /-- SETNC_r_m8 (R254). -/
  | setnc (dst : RM)
  /-- SETNE_r_m8 (R255). -/
  | setne (dst : RM)
  /-- SETNG_r_m8 (R256). -/
  | setng (dst : RM)
  /-- SETNGE_r_m8 (R257). -/
  | setnge (dst : RM)
  /-- SETNL_r_m8 (R258). -/
  | setnl (dst : RM)
  /-- SETNLE_r_m8 (R259). -/
  | setnle (dst : RM)
  /-- SETNO_r_m8 (R260). -/
  | setno (dst : RM)
  /-- SETNP_r_m8 (R261). -/
  | setnp (dst : RM)
  /-- SETNS_r_m8 (R262). -/
  | setns (dst : RM)
  /-- SETNZ_r_m8 (R263). -/
  | setnz (dst : RM)
  /-- SETO_r_m8 (R264). -/
  | seto (dst : RM)
  /-- SETP_r_m8 (R265). -/
  | setp (dst : RM)
  /-- SETPE_r_m8 (R266). -/
  | setpe (dst : RM)
  /-- SETPO_r_m8 (R267). -/
  | setpo (dst : RM)
  /-- SETS_r_m8 (R268). -/
  | sets (dst : RM)
  /-- SETZ_r_m8 (R269). -/
  | setz (dst : RM)
  /-- SGDT_m (R281). -/
  | sgdt (osz : Size) (dst : RM)
  /-- SIDT_m (R282). -/
  | sidt (osz : Size) (dst : RM)
  /-- SHLD_r_m16_r16_imm8 (R302). -/
  | shldRm16R16Imm8 (dst : RM) (src : RegNum) (imm : Byte)
  /-- SHLD_r_m16_r16_CL (R303). -/
  | shldRm16R16Cl (dst : RM) (src : RegNum)
  /-- SHLD_r_m32_r32_imm8 (R304). -/
  | shldRm32R32Imm8 (dst : RM) (src : RegNum) (imm : Byte)
  /-- SHLD_r_m32_r32_CL (R305). -/
  | shldRm32R32Cl (dst : RM) (src : RegNum)
  /-- SHRD_r_m16_r16_imm8 (R312). -/
  | shrdRm16R16Imm8 (dst : RM) (src : RegNum) (imm : Byte)
  /-- SHRD_r_m16_r16_CL (R313). -/
  | shrdRm16R16Cl (dst : RM) (src : RegNum)
  /-- SHRD_r_m32_r32_imm8 (R314). -/
  | shrdRm32R32Imm8 (dst : RM) (src : RegNum) (imm : Byte)
  /-- SHRD_r_m32_r32_CL (R315). -/
  | shrdRm32R32Cl (dst : RM) (src : RegNum)
  /-- SLDT_r_m16 (R326). -/
  | sldtRm16 (dst : RM)
  /-- SLDT_r_m32 (R327). -/
  | sldtRm32 (dst : RM)
  /-- SMSW_r_m16 (R336). -/
  | smswRm16 (dst : RM)
  /-- SMSW_r32_m16 (R337). -/
  | smswR32M16 (dst : RM)
  /-- STC (R345). -/
  | stc
  /-- STD (R350). -/
  | std
  /-- STI (R355). -/
  | sti
  /-- STOS_m8 (R366). -/
  | stosM8 (asz : Size)
  /-- STOS_m16 (R367). -/
  | stosM16 (asz : Size)
  /-- STOS_m32 (R368). -/
  | stosM32 (asz : Size)
  /-- STOSB (R369). -/
  | stosb (asz : Size)
  /-- STOSW (R370). -/
  | stosw (asz : Size)
  /-- STOSD (R371). -/
  | stosd (asz : Size)
  /-- STR_r_m16 (R375). -/
  | strRm16 (osz : Size) (dst : RM)
  /-- SUB_AL_imm8 (R388). -/
  | subAlImm8 (imm : Byte)
  /-- SUB_AX_imm16 (R389). -/
  | subAxImm16 (imm : Word16)
  /-- SUB_EAX_imm32 (R390). -/
  | subEaxImm32 (imm : Word32)
  /-- SUB_r_m8_imm8 (R391). -/
  | subRm8Imm8 (dst : RM) (imm : Byte)
  /-- SUB_r_m16_imm16 (R392). -/
  | subRm16Imm16 (dst : RM) (imm : Word16)
  /-- SUB_r_m32_imm32 (R393). -/
  | subRm32Imm32 (dst : RM) (imm : Word32)
  /-- SUB_r_m16_imm8 (R394). -/
  | subRm16Imm8 (dst : RM) (imm : Byte)
  /-- SUB_r_m32_imm8 (R395). -/
  | subRm32Imm8 (dst : RM) (imm : Byte)
  /-- SUB_r_m8_r8 (R396). -/
  | subRm8R8 (dst : RM) (src : RegNum)
  /-- SUB_r_m16_r16 (R397). -/
  | subRm16R16 (dst : RM) (src : RegNum)
  /-- SUB_r_m32_r32 (R398). -/
  | subRm32R32 (dst : RM) (src : RegNum)
  /-- SUB_r8_r_m8 (R399). -/
  | subR8Rm8 (dst : RegNum) (src : RM)
  /-- SUB_r16_r_m16 (R400). -/
  | subR16Rm16 (dst : RegNum) (src : RM)
  /-- SUB_r32_r_m32 (R401). -/
  | subR32Rm32 (dst : RegNum) (src : RM)
  /-- SYSENTER (R408). -/
  | sysenter
  /-- SYSEXIT (R423). -/
  | sysexit
deriving DecidableEq, Repr

/-- The spelling the decoder prints among the mnemonics that share one encoding (30_encoding.md R109: "a
disassembler may print any one of them"; log entry 26): SHL for SAL, the no-operands string forms, and for SETcc
the first mnemonic of each row of 44_setcc.md R237. -/
def Instr.canon : Instr → Instr
  | .sahf => .sahf
  | .salRm8One dst => .shlRm8One dst
  | .salRm8Cl dst => .shlRm8Cl dst
  | .salRm8Imm8 dst imm => .shlRm8Imm8 dst imm
  | .salRm16One dst => .shlRm16One dst
  | .salRm16Cl dst => .shlRm16Cl dst
  | .salRm16Imm8 dst imm => .shlRm16Imm8 dst imm
  | .salRm32One dst => .shlRm32One dst
  | .salRm32Cl dst => .shlRm32Cl dst
  | .salRm32Imm8 dst imm => .shlRm32Imm8 dst imm
  | .sarRm8One dst => .sarRm8One dst
  | .sarRm8Cl dst => .sarRm8Cl dst
  | .sarRm8Imm8 dst imm => .sarRm8Imm8 dst imm
  | .sarRm16One dst => .sarRm16One dst
  | .sarRm16Cl dst => .sarRm16Cl dst
  | .sarRm16Imm8 dst imm => .sarRm16Imm8 dst imm
  | .sarRm32One dst => .sarRm32One dst
  | .sarRm32Cl dst => .sarRm32Cl dst
  | .sarRm32Imm8 dst imm => .sarRm32Imm8 dst imm
  | .shlRm8One dst => .shlRm8One dst
  | .shlRm8Cl dst => .shlRm8Cl dst
  | .shlRm8Imm8 dst imm => .shlRm8Imm8 dst imm
  | .shlRm16One dst => .shlRm16One dst
  | .shlRm16Cl dst => .shlRm16Cl dst
  | .shlRm16Imm8 dst imm => .shlRm16Imm8 dst imm
  | .shlRm32One dst => .shlRm32One dst
  | .shlRm32Cl dst => .shlRm32Cl dst
  | .shlRm32Imm8 dst imm => .shlRm32Imm8 dst imm
  | .shrRm8One dst => .shrRm8One dst
  | .shrRm8Cl dst => .shrRm8Cl dst
  | .shrRm8Imm8 dst imm => .shrRm8Imm8 dst imm
  | .shrRm16One dst => .shrRm16One dst
  | .shrRm16Cl dst => .shrRm16Cl dst
  | .shrRm16Imm8 dst imm => .shrRm16Imm8 dst imm
  | .shrRm32One dst => .shrRm32One dst
  | .shrRm32Cl dst => .shrRm32Cl dst
  | .shrRm32Imm8 dst imm => .shrRm32Imm8 dst imm
  | .sbbAlImm8 imm => .sbbAlImm8 imm
  | .sbbAxImm16 imm => .sbbAxImm16 imm
  | .sbbEaxImm32 imm => .sbbEaxImm32 imm
  | .sbbRm8Imm8 dst imm => .sbbRm8Imm8 dst imm
  | .sbbRm16Imm16 dst imm => .sbbRm16Imm16 dst imm
  | .sbbRm32Imm32 dst imm => .sbbRm32Imm32 dst imm
  | .sbbRm16Imm8 dst imm => .sbbRm16Imm8 dst imm
  | .sbbRm32Imm8 dst imm => .sbbRm32Imm8 dst imm
  | .sbbRm8R8 dst src => .sbbRm8R8 dst src
  | .sbbRm16R16 dst src => .sbbRm16R16 dst src
  | .sbbRm32R32 dst src => .sbbRm32R32 dst src
  | .sbbR8Rm8 dst src => .sbbR8Rm8 dst src
  | .sbbR16Rm16 dst src => .sbbR16Rm16 dst src
  | .sbbR32Rm32 dst src => .sbbR32Rm32 dst src
  | .scasM8 asz => .scasb asz
  | .scasM16 asz => .scasw asz
  | .scasM32 asz => .scasd asz
  | .scasb asz => .scasb asz
  | .scasw asz => .scasw asz
  | .scasd asz => .scasd asz
  | .seta dst => .seta dst
  | .setae dst => .setae dst
  | .setb dst => .setb dst
  | .setbe dst => .setbe dst
  | .setc dst => .setb dst
  | .sete dst => .sete dst
  | .setg dst => .setg dst
  | .setge dst => .setge dst
  | .setl dst => .setl dst
  | .setle dst => .setle dst
  | .setna dst => .setbe dst
  | .setnae dst => .setb dst
  | .setnb dst => .setae dst
  | .setnbe dst => .seta dst
  | .setnc dst => .setae dst
  | .setne dst => .setne dst
  | .setng dst => .setle dst
  | .setnge dst => .setl dst
  | .setnl dst => .setge dst
  | .setnle dst => .setg dst
  | .setno dst => .setno dst
  | .setnp dst => .setnp dst
  | .setns dst => .setns dst
  | .setnz dst => .setne dst
  | .seto dst => .seto dst
  | .setp dst => .setp dst
  | .setpe dst => .setp dst
  | .setpo dst => .setnp dst
  | .sets dst => .sets dst
  | .setz dst => .sete dst
  | .sgdt osz dst => .sgdt osz dst
  | .sidt osz dst => .sidt osz dst
  | .shldRm16R16Imm8 dst src imm => .shldRm16R16Imm8 dst src imm
  | .shldRm16R16Cl dst src => .shldRm16R16Cl dst src
  | .shldRm32R32Imm8 dst src imm => .shldRm32R32Imm8 dst src imm
  | .shldRm32R32Cl dst src => .shldRm32R32Cl dst src
  | .shrdRm16R16Imm8 dst src imm => .shrdRm16R16Imm8 dst src imm
  | .shrdRm16R16Cl dst src => .shrdRm16R16Cl dst src
  | .shrdRm32R32Imm8 dst src imm => .shrdRm32R32Imm8 dst src imm
  | .shrdRm32R32Cl dst src => .shrdRm32R32Cl dst src
  | .sldtRm16 dst => .sldtRm16 dst
  | .sldtRm32 dst => .sldtRm32 dst
  | .smswRm16 dst => .smswRm16 dst
  | .smswR32M16 dst => .smswR32M16 dst
  | .stc => .stc
  | .std => .std
  | .sti => .sti
  | .stosM8 asz => .stosb asz
  | .stosM16 asz => .stosw asz
  | .stosM32 asz => .stosd asz
  | .stosb asz => .stosb asz
  | .stosw asz => .stosw asz
  | .stosd asz => .stosd asz
  | .strRm16 osz dst => .strRm16 osz dst
  | .subAlImm8 imm => .subAlImm8 imm
  | .subAxImm16 imm => .subAxImm16 imm
  | .subEaxImm32 imm => .subEaxImm32 imm
  | .subRm8Imm8 dst imm => .subRm8Imm8 dst imm
  | .subRm16Imm16 dst imm => .subRm16Imm16 dst imm
  | .subRm32Imm32 dst imm => .subRm32Imm32 dst imm
  | .subRm16Imm8 dst imm => .subRm16Imm8 dst imm
  | .subRm32Imm8 dst imm => .subRm32Imm8 dst imm
  | .subRm8R8 dst src => .subRm8R8 dst src
  | .subRm16R16 dst src => .subRm16R16 dst src
  | .subRm32R32 dst src => .subRm32R32 dst src
  | .subR8Rm8 dst src => .subR8Rm8 dst src
  | .subR16Rm16 dst src => .subR16Rm16 dst src
  | .subR32Rm32 dst src => .subR32Rm32 dst src
  | .sysenter => .sysenter
  | .sysexit => .sysexit

end Sys2Proof
end

