-- ==== Sys2Proof/WellFormed.lean ====
section
/-! DEFINITION. Which instruction terms have an encoding: the addressing forms that the ModR/M and SIB tables
(30_encoding.md R101, R102) give no bytes are ill-formed. Every other operand is well-formed at every value. -/

namespace Sys2Proof

/-- R102: mod = 00 with r/m = 110 is a direct address, so BP alone takes a displacement. -/
def Addr16.wf : Addr16 → Bool
  | .base .bp .none => false
  | .base _ _ => true
  | .direct _ => true

/-- R101: base 101 with mod = 00 is not a register base. -/
def Addr32.baseWf (b : RegNum) (d : Disp32) : Bool := !(b == 5#3 && d == .none)

/-- R101: index field 100 means no index, so no register 4 is an index. -/
def Addr32.indexWf (index : Option RegNum) : Bool := index != some 4#3

/-- R101: r/m = 100 is the SIB escape, so a plain base is not register 4. -/
def Addr32.wf : Addr32 → Bool
  | .base b d => b != 4#3 && Addr32.baseWf b d
  | .direct _ => true
  | .sib _ index b d => Addr32.indexWf index && Addr32.baseWf b d
  | .sibNoBase _ index _ => Addr32.indexWf index

/-- Whether an addressing form has an encoding. -/
def EffAddr.wf : EffAddr → Bool
  | .a16 a => a.wf
  | .a32 a => a.wf

/-- Whether an `r/m` operand has an encoding. -/
def RM.wf : RM → Bool
  | .reg _ => true
  | .mem m => m.ea.wf

/-- Whether an instruction has an encoding. -/
def Instr.wf : Instr → Bool
  | .sahf => true
  | .salRm8One dst => dst.wf
  | .salRm8Cl dst => dst.wf
  | .salRm8Imm8 dst _ => dst.wf
  | .salRm16One dst => dst.wf
  | .salRm16Cl dst => dst.wf
  | .salRm16Imm8 dst _ => dst.wf
  | .salRm32One dst => dst.wf
  | .salRm32Cl dst => dst.wf
  | .salRm32Imm8 dst _ => dst.wf
  | .sarRm8One dst => dst.wf
  | .sarRm8Cl dst => dst.wf
  | .sarRm8Imm8 dst _ => dst.wf
  | .sarRm16One dst => dst.wf
  | .sarRm16Cl dst => dst.wf
  | .sarRm16Imm8 dst _ => dst.wf
  | .sarRm32One dst => dst.wf
  | .sarRm32Cl dst => dst.wf
  | .sarRm32Imm8 dst _ => dst.wf
  | .shlRm8One dst => dst.wf
  | .shlRm8Cl dst => dst.wf
  | .shlRm8Imm8 dst _ => dst.wf
  | .shlRm16One dst => dst.wf
  | .shlRm16Cl dst => dst.wf
  | .shlRm16Imm8 dst _ => dst.wf
  | .shlRm32One dst => dst.wf
  | .shlRm32Cl dst => dst.wf
  | .shlRm32Imm8 dst _ => dst.wf
  | .shrRm8One dst => dst.wf
  | .shrRm8Cl dst => dst.wf
  | .shrRm8Imm8 dst _ => dst.wf
  | .shrRm16One dst => dst.wf
  | .shrRm16Cl dst => dst.wf
  | .shrRm16Imm8 dst _ => dst.wf
  | .shrRm32One dst => dst.wf
  | .shrRm32Cl dst => dst.wf
  | .shrRm32Imm8 dst _ => dst.wf
  | .sbbAlImm8 _ => true
  | .sbbAxImm16 _ => true
  | .sbbEaxImm32 _ => true
  | .sbbRm8Imm8 dst _ => dst.wf
  | .sbbRm16Imm16 dst _ => dst.wf
  | .sbbRm32Imm32 dst _ => dst.wf
  | .sbbRm16Imm8 dst _ => dst.wf
  | .sbbRm32Imm8 dst _ => dst.wf
  | .sbbRm8R8 dst _ => dst.wf
  | .sbbRm16R16 dst _ => dst.wf
  | .sbbRm32R32 dst _ => dst.wf
  | .sbbR8Rm8 _ src => src.wf
  | .sbbR16Rm16 _ src => src.wf
  | .sbbR32Rm32 _ src => src.wf
  | .scasM8 _ => true
  | .scasM16 _ => true
  | .scasM32 _ => true
  | .scasb _ => true
  | .scasw _ => true
  | .scasd _ => true
  | .seta dst => dst.wf
  | .setae dst => dst.wf
  | .setb dst => dst.wf
  | .setbe dst => dst.wf
  | .setc dst => dst.wf
  | .sete dst => dst.wf
  | .setg dst => dst.wf
  | .setge dst => dst.wf
  | .setl dst => dst.wf
  | .setle dst => dst.wf
  | .setna dst => dst.wf
  | .setnae dst => dst.wf
  | .setnb dst => dst.wf
  | .setnbe dst => dst.wf
  | .setnc dst => dst.wf
  | .setne dst => dst.wf
  | .setng dst => dst.wf
  | .setnge dst => dst.wf
  | .setnl dst => dst.wf
  | .setnle dst => dst.wf
  | .setno dst => dst.wf
  | .setnp dst => dst.wf
  | .setns dst => dst.wf
  | .setnz dst => dst.wf
  | .seto dst => dst.wf
  | .setp dst => dst.wf
  | .setpe dst => dst.wf
  | .setpo dst => dst.wf
  | .sets dst => dst.wf
  | .setz dst => dst.wf
  | .sgdt _ dst => dst.wf
  | .sidt _ dst => dst.wf
  | .shldRm16R16Imm8 dst _ _ => dst.wf
  | .shldRm16R16Cl dst _ => dst.wf
  | .shldRm32R32Imm8 dst _ _ => dst.wf
  | .shldRm32R32Cl dst _ => dst.wf
  | .shrdRm16R16Imm8 dst _ _ => dst.wf
  | .shrdRm16R16Cl dst _ => dst.wf
  | .shrdRm32R32Imm8 dst _ _ => dst.wf
  | .shrdRm32R32Cl dst _ => dst.wf
  | .sldtRm16 dst => dst.wf
  | .sldtRm32 dst => dst.wf
  | .smswRm16 dst => dst.wf
  | .smswR32M16 dst => dst.wf
  | .stc => true
  | .std => true
  | .sti => true
  | .stosM8 _ => true
  | .stosM16 _ => true
  | .stosM32 _ => true
  | .stosb _ => true
  | .stosw _ => true
  | .stosd _ => true
  | .strRm16 _ dst => dst.wf
  | .subAlImm8 _ => true
  | .subAxImm16 _ => true
  | .subEaxImm32 _ => true
  | .subRm8Imm8 dst _ => dst.wf
  | .subRm16Imm16 dst _ => dst.wf
  | .subRm32Imm32 dst _ => dst.wf
  | .subRm16Imm8 dst _ => dst.wf
  | .subRm32Imm8 dst _ => dst.wf
  | .subRm8R8 dst _ => dst.wf
  | .subRm16R16 dst _ => dst.wf
  | .subRm32R32 dst _ => dst.wf
  | .subR8Rm8 _ src => src.wf
  | .subR16Rm16 _ src => src.wf
  | .subR32Rm32 _ src => src.wf
  | .sysenter => true
  | .sysexit => true

end Sys2Proof
end

