-- ==== Sys2Proof/Decode.lean ====
section
/-! DEFINITION. The decoder of 30_encoding.md R119: instruction bytes to an instruction and the bytes after it, or
a stop by name. After it the encoder, written from the same tables (R95, R100 to R102, R112, R113), and the table
word of the host's interface. -/

namespace Sys2Proof

/-- Why bytes are no instruction of this spec. -/
inductive DecodeStop where
  /-- F0h among the prefix bytes (R99, R119 step 2). -/
  | lockPrefix
  /-- F2h or F3h among the prefix bytes (R98, R119 step 2). -/
  | repPrefix
  /-- An opcode or digit that R112 and R113 do not list (R117). -/
  | notInScope
  /-- The bytes end before the instruction does. -/
  | truncated
deriving DecidableEq, Repr

/-- An instruction and the bytes after it. -/
abbrev Decoded := Except DecodeStop (Instr × List Byte)

/-! ## Prefixes (R95, R96) -/

/-- The set `P` of R119 step 1: the last segment override (R103) and which other prefix bytes are present. -/
structure Prefixes where
  seg : Option SegName
  opsize : Bool
  addrsize : Bool
  lock : Bool
  rep : Bool
deriving DecidableEq, Repr

/-- No prefix byte seen. -/
def Prefixes.empty : Prefixes :=
  { seg := none, opsize := false, addrsize := false, lock := false, rep := false }

/-- R95: what a byte adds to the set; `none` where it is no prefix byte. -/
def Prefixes.add (p : Prefixes) (b : Byte) : Option Prefixes :=
  match b.toNat with
  | 0x26 => some { p with seg := some .es }
  | 0x2E => some { p with seg := some .cs }
  | 0x36 => some { p with seg := some .ss }
  | 0x3E => some { p with seg := some .ds }
  | 0x64 => some { p with seg := some .fs }
  | 0x65 => some { p with seg := some .gs }
  | 0x66 => some { p with opsize := true }
  | 0x67 => some { p with addrsize := true }
  | 0xF0 => some { p with lock := true }
  | 0xF2 => some { p with rep := true }
  | 0xF3 => some { p with rep := true }
  | _ => none

/-- R119 step 1: take prefix bytes until the next byte is none. -/
def takePrefixes (p : Prefixes) : List Byte → Prefixes × List Byte
  | [] => (p, [])
  | b :: bs =>
    match p.add b with
    | some p' => takePrefixes p' bs
    | none => (p, b :: bs)

/-- R96: OperandSize from the default and the 66h byte. -/
def Prefixes.operandSize (p : Prefixes) (dflt : Size) : Size :=
  if p.opsize then dflt.other else dflt

/-- R96: AddressSize from the default and the 67h byte. -/
def Prefixes.addressSize (p : Prefixes) (dflt : Size) : Size :=
  if p.addrsize then dflt.other else dflt

/-! ## Little-endian parts (R93, 20_memory.md R67) -/

/-- One byte, then what follows. -/
def take8 {α : Type} (bs : List Byte) (k : Byte → List Byte → Except DecodeStop α) : Except DecodeStop α :=
  match bs with
  | b :: r => k b r
  | [] => .error .truncated

/-- A little-endian word, then what follows. -/
def take16 {α : Type} (bs : List Byte) (k : Word16 → List Byte → Except DecodeStop α) : Except DecodeStop α :=
  match bs with
  | b0 :: b1 :: r => k (b1 ++ b0) r
  | _ => .error .truncated

/-- A little-endian doubleword, then what follows. -/
def take32 {α : Type} (bs : List Byte) (k : Word32 → List Byte → Except DecodeStop α) : Except DecodeStop α :=
  match bs with
  | b0 :: b1 :: b2 :: b3 :: r => k (b3 ++ b2 ++ b1 ++ b0) r
  | _ => .error .truncated

/-! ## ModR/M and SIB (R100 to R102) -/

/-- The mod field: bits 7:6. -/
def modField (b : Byte) : BitVec 2 := b.extractLsb' 6 2

/-- The reg field: bits 5:3. -/
def regField (b : Byte) : RegNum := b.extractLsb' 3 3

/-- The rm field: bits 2:0. -/
def rmField (b : Byte) : RegNum := b.extractLsb' 0 3

/-- The register sum an r/m field names with AddressSize 16 (R102). -/
def Base16.ofField (rm : RegNum) : Base16 :=
  match rm.toNat with
  | 0 => .bxSi
  | 1 => .bxDi
  | 2 => .bpSi
  | 3 => .bpDi
  | 4 => .si
  | 5 => .di
  | 6 => .bp
  | _ => .bx

/-- R102: the 16-bit addressing form of mod (00, 01 or 10) and r/m. -/
def withAddr16 (mod : BitVec 2) (rm : RegNum) (bs : List Byte) (k : EffAddr → List Byte → Decoded) : Decoded :=
  if mod = 0#2 then
    if rm = 6#3 then take16 bs fun d r => k (.a16 (.direct d)) r
    else k (.a16 (.base (Base16.ofField rm) .none)) bs
  else if mod = 1#2 then take8 bs fun d r => k (.a16 (.base (Base16.ofField rm) (.d8 d))) r
  else take16 bs fun d r => k (.a16 (.base (Base16.ofField rm) (.d16 d))) r

/-- R101: SIB index 100 is no index. -/
def sibIndex (n : RegNum) : Option RegNum := if n = 4#3 then none else some n

/-- R101: the SIB form of mod, from the SIB byte on. -/
def withSib (mod : BitVec 2) (bs : List Byte) (k : EffAddr → List Byte → Decoded) : Decoded :=
  take8 bs fun sib r =>
    if mod = 0#2 then
      if rmField sib = 5#3 then
        take32 r fun d r => k (.a32 (.sibNoBase (modField sib) (sibIndex (regField sib)) d)) r
      else k (.a32 (.sib (modField sib) (sibIndex (regField sib)) (rmField sib) .none)) r
    else if mod = 1#2 then
      take8 r fun d r => k (.a32 (.sib (modField sib) (sibIndex (regField sib)) (rmField sib) (.d8 d))) r
    else take32 r fun d r => k (.a32 (.sib (modField sib) (sibIndex (regField sib)) (rmField sib) (.d32 d))) r

/-- R101: the 32-bit addressing form of mod (00, 01 or 10) and r/m. -/
def withAddr32 (mod : BitVec 2) (rm : RegNum) (bs : List Byte) (k : EffAddr → List Byte → Decoded) : Decoded :=
  if rm = 4#3 then withSib mod bs k
  else if mod = 0#2 then
    if rm = 5#3 then take32 bs fun d r => k (.a32 (.direct d)) r
    else k (.a32 (.base rm .none)) bs
  else if mod = 1#2 then take8 bs fun d r => k (.a32 (.base rm (.d8 d))) r
  else take32 bs fun d r => k (.a32 (.base rm (.d32 d))) r

/-- R100 and R119 step 7: the `r/m` operand of mod and r/m. -/
def withRm (asz : Size) (seg : Option SegName) (mod : BitVec 2) (rm : RegNum) (bs : List Byte)
    (k : RM → List Byte → Decoded) : Decoded :=
  if mod = 3#2 then k (.reg rm) bs
  else
    match asz with
    | .s16 => withAddr16 mod rm bs fun ea r => k (.mem { ea := ea, override := seg }) r
    | .s32 => withAddr32 mod rm bs fun ea r => k (.mem { ea := ea, override := seg }) r

/-- A `/r` row (R92): the ModR/M byte's reg field and its `r/m` operand. -/
def withModRM (asz : Size) (seg : Option SegName) (bs : List Byte) (k : RegNum → RM → List Byte → Decoded) :
    Decoded :=
  take8 bs fun m r => withRm asz seg (modField m) (rmField m) r (k (regField m))

/-- A `/digit` group (R92, R119 step 6): the digit picks the row, or none. -/
def withGroup (asz : Size) (seg : Option SegName) (bs : List Byte)
    (rows : RegNum → Option (RM → List Byte → Decoded)) : Decoded :=
  take8 bs fun m r =>
    match rows (regField m) with
    | some k => withRm asz seg (modField m) (rmField m) r k
    | none => .error .notInScope

/-- R97: of two rows with the same bytes, the one of the operand size. -/
def Size.pick {α : Type} (osz : Size) (i16 i32 : α) : α :=
  match osz with
  | .s16 => i16
  | .s32 => i32

/-! ## The opcode tables (R112, R113) -/

/-- A shift group: `/4` SHL, `/5` SHR, `/7` SAR (41_shift.md R140). -/
def shiftGroup (shl shr sar : RM → List Byte → Decoded) (digit : RegNum) : Option (RM → List Byte → Decoded) :=
  match digit.toNat with
  | 4 => some shl
  | 5 => some shr
  | 7 => some sar
  | _ => none

/-- The groups 80, 81, 83: `/3` SBB, `/5` SUB. -/
def subGroup (sbb sub : RM → List Byte → Decoded) (digit : RegNum) : Option (RM → List Byte → Decoded) :=
  match digit.toNat with
  | 3 => some sbb
  | 5 => some sub
  | _ => none

/-- An instruction whose last part was the `r/m` operand. -/
def done (f : RM → Instr) (rm : RM) (r : List Byte) : Decoded := .ok (f rm, r)

/-- An instruction with an `ib` after its `r/m` operand. -/
def thenIb (f : RM → Byte → Instr) (rm : RM) (r : List Byte) : Decoded := take8 r fun d r => .ok (f rm d, r)

/-- An instruction with an `iw` or `id` after its `r/m` operand, by OperandSize (R97, R119 step 9). -/
def thenIwd (osz : Size) (f : RM → Word16 → Instr) (g : RM → Word32 → Instr) (rm : RM) (r : List Byte) : Decoded :=
  match osz with
  | .s16 => take16 r fun d r => .ok (f rm d, r)
  | .s32 => take32 r fun d r => .ok (g rm d, r)

/-- The two-byte opcodes, from the second byte on (R113). -/
def decodeTwoByte (osz asz : Size) (seg : Option SegName) (op : Byte) (bs : List Byte) : Decoded :=
  match op.toNat with
  | 0x00 => withGroup asz seg bs fun digit =>
      match digit.toNat with
      | 0 => some (done (osz.pick Instr.sldtRm16 Instr.sldtRm32))
      | 1 => some (done (Instr.strRm16 osz))
      | _ => none
  | 0x01 => withGroup asz seg bs fun digit =>
      match digit.toNat with
      | 0 => some (done (Instr.sgdt osz))
      | 1 => some (done (Instr.sidt osz))
      | 4 => some (done (osz.pick Instr.smswRm16 Instr.smswR32M16))
      | _ => none
  | 0x34 => .ok (.sysenter, bs)
  | 0x35 => .ok (.sysexit, bs)
  | 0x90 => withModRM asz seg bs fun _ => done Instr.seto
  | 0x91 => withModRM asz seg bs fun _ => done Instr.setno
  | 0x92 => withModRM asz seg bs fun _ => done Instr.setb
  | 0x93 => withModRM asz seg bs fun _ => done Instr.setae
  | 0x94 => withModRM asz seg bs fun _ => done Instr.sete
  | 0x95 => withModRM asz seg bs fun _ => done Instr.setne
  | 0x96 => withModRM asz seg bs fun _ => done Instr.setbe
  | 0x97 => withModRM asz seg bs fun _ => done Instr.seta
  | 0x98 => withModRM asz seg bs fun _ => done Instr.sets
  | 0x99 => withModRM asz seg bs fun _ => done Instr.setns
  | 0x9A => withModRM asz seg bs fun _ => done Instr.setp
  | 0x9B => withModRM asz seg bs fun _ => done Instr.setnp
  | 0x9C => withModRM asz seg bs fun _ => done Instr.setl
  | 0x9D => withModRM asz seg bs fun _ => done Instr.setge
  | 0x9E => withModRM asz seg bs fun _ => done Instr.setle
  | 0x9F => withModRM asz seg bs fun _ => done Instr.setg
  | 0xA4 => withModRM asz seg bs fun reg rm r => take8 r fun d r =>
      .ok (osz.pick (Instr.shldRm16R16Imm8 rm reg d) (Instr.shldRm32R32Imm8 rm reg d), r)
  | 0xA5 => withModRM asz seg bs fun reg rm r =>
      .ok (osz.pick (Instr.shldRm16R16Cl rm reg) (Instr.shldRm32R32Cl rm reg), r)
  | 0xAC => withModRM asz seg bs fun reg rm r => take8 r fun d r =>
      .ok (osz.pick (Instr.shrdRm16R16Imm8 rm reg d) (Instr.shrdRm32R32Imm8 rm reg d), r)
  | 0xAD => withModRM asz seg bs fun reg rm r =>
      .ok (osz.pick (Instr.shrdRm16R16Cl rm reg) (Instr.shrdRm32R32Cl rm reg), r)
  | _ => .error .notInScope

/-- The one-byte opcodes and the 0Fh escape (R91, R112). -/
def decodeOpcode (osz asz : Size) (seg : Option SegName) (op : Byte) (bs : List Byte) : Decoded :=
  match op.toNat with
  | 0x0F => take8 bs fun op2 r => decodeTwoByte osz asz seg op2 r
  | 0x18 => withModRM asz seg bs fun reg rm r => .ok (.sbbRm8R8 rm reg, r)
  | 0x19 => withModRM asz seg bs fun reg rm r => .ok (osz.pick (.sbbRm16R16 rm reg) (.sbbRm32R32 rm reg), r)
  | 0x1A => withModRM asz seg bs fun reg rm r => .ok (.sbbR8Rm8 reg rm, r)
  | 0x1B => withModRM asz seg bs fun reg rm r => .ok (osz.pick (.sbbR16Rm16 reg rm) (.sbbR32Rm32 reg rm), r)
  | 0x1C => take8 bs fun d r => .ok (.sbbAlImm8 d, r)
  | 0x1D =>
      match osz with
      | .s16 => take16 bs fun d r => .ok (.sbbAxImm16 d, r)
      | .s32 => take32 bs fun d r => .ok (.sbbEaxImm32 d, r)
  | 0x28 => withModRM asz seg bs fun reg rm r => .ok (.subRm8R8 rm reg, r)
  | 0x29 => withModRM asz seg bs fun reg rm r => .ok (osz.pick (.subRm16R16 rm reg) (.subRm32R32 rm reg), r)
  | 0x2A => withModRM asz seg bs fun reg rm r => .ok (.subR8Rm8 reg rm, r)
  | 0x2B => withModRM asz seg bs fun reg rm r => .ok (osz.pick (.subR16Rm16 reg rm) (.subR32Rm32 reg rm), r)
  | 0x2C => take8 bs fun d r => .ok (.subAlImm8 d, r)
  | 0x2D =>
      match osz with
      | .s16 => take16 bs fun d r => .ok (.subAxImm16 d, r)
      | .s32 => take32 bs fun d r => .ok (.subEaxImm32 d, r)
  | 0x80 => withGroup asz seg bs (subGroup (thenIb Instr.sbbRm8Imm8) (thenIb Instr.subRm8Imm8))
  | 0x81 => withGroup asz seg bs (subGroup (thenIwd osz Instr.sbbRm16Imm16 Instr.sbbRm32Imm32)
      (thenIwd osz Instr.subRm16Imm16 Instr.subRm32Imm32))
  | 0x83 => withGroup asz seg bs (subGroup (thenIb (osz.pick Instr.sbbRm16Imm8 Instr.sbbRm32Imm8))
      (thenIb (osz.pick Instr.subRm16Imm8 Instr.subRm32Imm8)))
  | 0x9E => .ok (.sahf, bs)
  | 0xAA => .ok (.stosb asz, bs)
  | 0xAB => .ok (osz.pick (.stosw asz) (.stosd asz), bs)
  | 0xAE => .ok (.scasb asz, bs)
  | 0xAF => .ok (osz.pick (.scasw asz) (.scasd asz), bs)
  | 0xC0 => withGroup asz seg bs (shiftGroup (thenIb Instr.shlRm8Imm8) (thenIb Instr.shrRm8Imm8) (thenIb Instr.sarRm8Imm8))
  | 0xC1 => withGroup asz seg bs (shiftGroup
      (thenIb (osz.pick Instr.shlRm16Imm8 Instr.shlRm32Imm8))
      (thenIb (osz.pick Instr.shrRm16Imm8 Instr.shrRm32Imm8))
      (thenIb (osz.pick Instr.sarRm16Imm8 Instr.sarRm32Imm8)))
  | 0xD0 => withGroup asz seg bs (shiftGroup (done Instr.shlRm8One) (done Instr.shrRm8One) (done Instr.sarRm8One))
  | 0xD1 => withGroup asz seg bs (shiftGroup
      (done (osz.pick Instr.shlRm16One Instr.shlRm32One))
      (done (osz.pick Instr.shrRm16One Instr.shrRm32One))
      (done (osz.pick Instr.sarRm16One Instr.sarRm32One)))
  | 0xD2 => withGroup asz seg bs (shiftGroup (done Instr.shlRm8Cl) (done Instr.shrRm8Cl) (done Instr.sarRm8Cl))
  | 0xD3 => withGroup asz seg bs (shiftGroup
      (done (osz.pick Instr.shlRm16Cl Instr.shlRm32Cl))
      (done (osz.pick Instr.shrRm16Cl Instr.shrRm32Cl))
      (done (osz.pick Instr.sarRm16Cl Instr.sarRm32Cl)))
  | 0xF9 => .ok (.stc, bs)
  | 0xFB => .ok (.sti, bs)
  | 0xFD => .ok (.std, bs)
  | _ => .error .notInScope

/-- R119: the instruction at the head of the bytes and the bytes after it. `dflt` is the default of both size
attributes (R96). A LOCK or REP byte refuses the instruction as soon as its opcode byte is there. DESIGN CHOICE, log entry 19: where no
opcode byte is there the bytes are cut short, LOCK or REP byte or not, so that 15 prefix bytes are an instruction too
long (R118) and no LOCK or REP refusal (R98, R99); the spec gives no order between the two. -/
def decode (dflt : Size) (bs : List Byte) : Decoded :=
  match takePrefixes .empty bs with
  | (_, []) => .error .truncated
  | (p, op :: r) =>
    if p.lock then .error .lockPrefix
    else if p.rep then .error .repPrefix
    else decodeOpcode (p.operandSize dflt) (p.addressSize dflt) p.seg op r

/-! ## The encoder -/

/-- The low byte first (20_memory.md R65). -/
def le16 (w : Word16) : List Byte := [w.extractLsb' 0 8, w.extractLsb' 8 8]

/-- The low byte first. -/
def le32 (w : Word32) : List Byte := [w.extractLsb' 0 8, w.extractLsb' 8 8, w.extractLsb' 16 8, w.extractLsb' 24 8]

/-- A ModR/M byte, or a SIB byte from scale, index and base (R100, R101). -/
def packModRM (mod : BitVec 2) (reg rm : RegNum) : Byte := mod ++ reg ++ rm

/-- The r/m field of a 16-bit register sum (R102). -/
def Base16.field : Base16 → RegNum
  | .bxSi => 0#3
  | .bxDi => 1#3
  | .bpSi => 2#3
  | .bpDi => 3#3
  | .si => 4#3
  | .di => 5#3
  | .bp => 6#3
  | .bx => 7#3

/-- The mod field a displacement takes. -/
def Disp16.mod : Disp16 → BitVec 2
  | .none => 0#2
  | .d8 _ => 1#2
  | .d16 _ => 2#2

/-- The displacement's bytes. -/
def Disp16.bytes : Disp16 → List Byte
  | .none => []
  | .d8 d => [d]
  | .d16 d => le16 d

/-- The mod field a displacement takes. -/
def Disp32.mod : Disp32 → BitVec 2
  | .none => 0#2
  | .d8 _ => 1#2
  | .d32 _ => 2#2

/-- The displacement's bytes. -/
def Disp32.bytes : Disp32 → List Byte
  | .none => []
  | .d8 d => [d]
  | .d32 d => le32 d

/-- The ModR/M byte with its displacement, for AddressSize 16. -/
def Addr16.bytes (reg : RegNum) : Addr16 → List Byte
  | .base b d => packModRM d.mod reg b.field :: d.bytes
  | .direct d => packModRM 0#2 reg 6#3 :: le16 d

/-- The ModR/M byte with its SIB byte and displacement, for AddressSize 32. -/
def Addr32.bytes (reg : RegNum) : Addr32 → List Byte
  | .base b d => packModRM d.mod reg b :: d.bytes
  | .direct d => packModRM 0#2 reg 5#3 :: le32 d
  | .sib scale index b d => packModRM d.mod reg 4#3 :: packModRM scale (index.getD 4#3) b :: d.bytes
  | .sibNoBase scale index d => packModRM 0#2 reg 4#3 :: packModRM scale (index.getD 4#3) 5#3 :: le32 d

/-- The ModR/M byte and what it calls for. -/
def RM.bytes (reg : RegNum) : RM → List Byte
  | .reg n => [packModRM 3#2 reg n]
  | .mem m =>
    match m.ea with
    | .a16 a => a.bytes reg
    | .a32 a => a.bytes reg

/-- The byte of a segment override (R95). -/
def SegName.byte : SegName → Byte
  | .es => 0x26#8
  | .cs => 0x2E#8
  | .ss => 0x36#8
  | .ds => 0x3E#8
  | .fs => 0x64#8
  | .gs => 0x65#8

/-- The 66h byte where the row's operand size is not the default. -/
def osBytes (dflt osz : Size) : List Byte := if osz = dflt then [] else [0x66#8]

/-- The 67h byte where the address size is not the default. -/
def asBytes (dflt asz : Size) : List Byte := if asz = dflt then [] else [0x67#8]

/-- The 67h and segment override bytes an `r/m` operand calls for. -/
def RM.pre (dflt : Size) : RM → List Byte
  | .reg _ => []
  | .mem m => asBytes dflt m.ea.size ++ (m.override.map SegName.byte).toList

/-- A row that does not depend on OperandSize, with a ModR/M byte. -/
def enc8 (dflt : Size) (op : List Byte) (reg : RegNum) (rm : RM) (imm : List Byte) : List Byte :=
  rm.pre dflt ++ op ++ rm.bytes reg ++ imm

/-- A row of OperandSize `osz`, with a ModR/M byte. -/
def encW (dflt osz : Size) (op : List Byte) (reg : RegNum) (rm : RM) (imm : List Byte) : List Byte :=
  osBytes dflt osz ++ enc8 dflt op reg rm imm

/-- The bytes of an instruction where both size attributes default to `dflt`: prefix bytes only where needed, the reg
field of SETcc 000 (44_setcc.md R239). -/
def encode (dflt : Size) : Instr → List Byte
  | .sahf => [0x9E#8]
  | .salRm8One dst => enc8 dflt [0xD0#8] 4#3 dst []
  | .salRm8Cl dst => enc8 dflt [0xD2#8] 4#3 dst []
  | .salRm8Imm8 dst imm => enc8 dflt [0xC0#8] 4#3 dst [imm]
  | .salRm16One dst => encW dflt .s16 [0xD1#8] 4#3 dst []
  | .salRm16Cl dst => encW dflt .s16 [0xD3#8] 4#3 dst []
  | .salRm16Imm8 dst imm => encW dflt .s16 [0xC1#8] 4#3 dst [imm]
  | .salRm32One dst => encW dflt .s32 [0xD1#8] 4#3 dst []
  | .salRm32Cl dst => encW dflt .s32 [0xD3#8] 4#3 dst []
  | .salRm32Imm8 dst imm => encW dflt .s32 [0xC1#8] 4#3 dst [imm]
  | .sarRm8One dst => enc8 dflt [0xD0#8] 7#3 dst []
  | .sarRm8Cl dst => enc8 dflt [0xD2#8] 7#3 dst []
  | .sarRm8Imm8 dst imm => enc8 dflt [0xC0#8] 7#3 dst [imm]
  | .sarRm16One dst => encW dflt .s16 [0xD1#8] 7#3 dst []
  | .sarRm16Cl dst => encW dflt .s16 [0xD3#8] 7#3 dst []
  | .sarRm16Imm8 dst imm => encW dflt .s16 [0xC1#8] 7#3 dst [imm]
  | .sarRm32One dst => encW dflt .s32 [0xD1#8] 7#3 dst []
  | .sarRm32Cl dst => encW dflt .s32 [0xD3#8] 7#3 dst []
  | .sarRm32Imm8 dst imm => encW dflt .s32 [0xC1#8] 7#3 dst [imm]
  | .shlRm8One dst => enc8 dflt [0xD0#8] 4#3 dst []
  | .shlRm8Cl dst => enc8 dflt [0xD2#8] 4#3 dst []
  | .shlRm8Imm8 dst imm => enc8 dflt [0xC0#8] 4#3 dst [imm]
  | .shlRm16One dst => encW dflt .s16 [0xD1#8] 4#3 dst []
  | .shlRm16Cl dst => encW dflt .s16 [0xD3#8] 4#3 dst []
  | .shlRm16Imm8 dst imm => encW dflt .s16 [0xC1#8] 4#3 dst [imm]
  | .shlRm32One dst => encW dflt .s32 [0xD1#8] 4#3 dst []
  | .shlRm32Cl dst => encW dflt .s32 [0xD3#8] 4#3 dst []
  | .shlRm32Imm8 dst imm => encW dflt .s32 [0xC1#8] 4#3 dst [imm]
  | .shrRm8One dst => enc8 dflt [0xD0#8] 5#3 dst []
  | .shrRm8Cl dst => enc8 dflt [0xD2#8] 5#3 dst []
  | .shrRm8Imm8 dst imm => enc8 dflt [0xC0#8] 5#3 dst [imm]
  | .shrRm16One dst => encW dflt .s16 [0xD1#8] 5#3 dst []
  | .shrRm16Cl dst => encW dflt .s16 [0xD3#8] 5#3 dst []
  | .shrRm16Imm8 dst imm => encW dflt .s16 [0xC1#8] 5#3 dst [imm]
  | .shrRm32One dst => encW dflt .s32 [0xD1#8] 5#3 dst []
  | .shrRm32Cl dst => encW dflt .s32 [0xD3#8] 5#3 dst []
  | .shrRm32Imm8 dst imm => encW dflt .s32 [0xC1#8] 5#3 dst [imm]
  | .sbbAlImm8 imm => [0x1C#8, imm]
  | .sbbAxImm16 imm => osBytes dflt .s16 ++ 0x1D#8 :: le16 imm
  | .sbbEaxImm32 imm => osBytes dflt .s32 ++ 0x1D#8 :: le32 imm
  | .sbbRm8Imm8 dst imm => enc8 dflt [0x80#8] 3#3 dst [imm]
  | .sbbRm16Imm16 dst imm => encW dflt .s16 [0x81#8] 3#3 dst (le16 imm)
  | .sbbRm32Imm32 dst imm => encW dflt .s32 [0x81#8] 3#3 dst (le32 imm)
  | .sbbRm16Imm8 dst imm => encW dflt .s16 [0x83#8] 3#3 dst [imm]
  | .sbbRm32Imm8 dst imm => encW dflt .s32 [0x83#8] 3#3 dst [imm]
  | .sbbRm8R8 dst src => enc8 dflt [0x18#8] src dst []
  | .sbbRm16R16 dst src => encW dflt .s16 [0x19#8] src dst []
  | .sbbRm32R32 dst src => encW dflt .s32 [0x19#8] src dst []
  | .sbbR8Rm8 dst src => enc8 dflt [0x1A#8] dst src []
  | .sbbR16Rm16 dst src => encW dflt .s16 [0x1B#8] dst src []
  | .sbbR32Rm32 dst src => encW dflt .s32 [0x1B#8] dst src []
  | .scasM8 asz => asBytes dflt asz ++ [0xAE#8]
  | .scasM16 asz => osBytes dflt .s16 ++ asBytes dflt asz ++ [0xAF#8]
  | .scasM32 asz => osBytes dflt .s32 ++ asBytes dflt asz ++ [0xAF#8]
  | .scasb asz => asBytes dflt asz ++ [0xAE#8]
  | .scasw asz => osBytes dflt .s16 ++ asBytes dflt asz ++ [0xAF#8]
  | .scasd asz => osBytes dflt .s32 ++ asBytes dflt asz ++ [0xAF#8]
  | .seta dst => enc8 dflt [0x0F#8, 0x97#8] 0#3 dst []
  | .setae dst => enc8 dflt [0x0F#8, 0x93#8] 0#3 dst []
  | .setb dst => enc8 dflt [0x0F#8, 0x92#8] 0#3 dst []
  | .setbe dst => enc8 dflt [0x0F#8, 0x96#8] 0#3 dst []
  | .setc dst => enc8 dflt [0x0F#8, 0x92#8] 0#3 dst []
  | .sete dst => enc8 dflt [0x0F#8, 0x94#8] 0#3 dst []
  | .setg dst => enc8 dflt [0x0F#8, 0x9F#8] 0#3 dst []
  | .setge dst => enc8 dflt [0x0F#8, 0x9D#8] 0#3 dst []
  | .setl dst => enc8 dflt [0x0F#8, 0x9C#8] 0#3 dst []
  | .setle dst => enc8 dflt [0x0F#8, 0x9E#8] 0#3 dst []
  | .setna dst => enc8 dflt [0x0F#8, 0x96#8] 0#3 dst []
  | .setnae dst => enc8 dflt [0x0F#8, 0x92#8] 0#3 dst []
  | .setnb dst => enc8 dflt [0x0F#8, 0x93#8] 0#3 dst []
  | .setnbe dst => enc8 dflt [0x0F#8, 0x97#8] 0#3 dst []
  | .setnc dst => enc8 dflt [0x0F#8, 0x93#8] 0#3 dst []
  | .setne dst => enc8 dflt [0x0F#8, 0x95#8] 0#3 dst []
  | .setng dst => enc8 dflt [0x0F#8, 0x9E#8] 0#3 dst []
  | .setnge dst => enc8 dflt [0x0F#8, 0x9C#8] 0#3 dst []
  | .setnl dst => enc8 dflt [0x0F#8, 0x9D#8] 0#3 dst []
  | .setnle dst => enc8 dflt [0x0F#8, 0x9F#8] 0#3 dst []
  | .setno dst => enc8 dflt [0x0F#8, 0x91#8] 0#3 dst []
  | .setnp dst => enc8 dflt [0x0F#8, 0x9B#8] 0#3 dst []
  | .setns dst => enc8 dflt [0x0F#8, 0x99#8] 0#3 dst []
  | .setnz dst => enc8 dflt [0x0F#8, 0x95#8] 0#3 dst []
  | .seto dst => enc8 dflt [0x0F#8, 0x90#8] 0#3 dst []
  | .setp dst => enc8 dflt [0x0F#8, 0x9A#8] 0#3 dst []
  | .setpe dst => enc8 dflt [0x0F#8, 0x9A#8] 0#3 dst []
  | .setpo dst => enc8 dflt [0x0F#8, 0x9B#8] 0#3 dst []
  | .sets dst => enc8 dflt [0x0F#8, 0x98#8] 0#3 dst []
  | .setz dst => enc8 dflt [0x0F#8, 0x94#8] 0#3 dst []
  | .sgdt osz dst => encW dflt osz [0x0F#8, 0x01#8] 0#3 dst []
  | .sidt osz dst => encW dflt osz [0x0F#8, 0x01#8] 1#3 dst []
  | .shldRm16R16Imm8 dst src imm => encW dflt .s16 [0x0F#8, 0xA4#8] src dst [imm]
  | .shldRm16R16Cl dst src => encW dflt .s16 [0x0F#8, 0xA5#8] src dst []
  | .shldRm32R32Imm8 dst src imm => encW dflt .s32 [0x0F#8, 0xA4#8] src dst [imm]
  | .shldRm32R32Cl dst src => encW dflt .s32 [0x0F#8, 0xA5#8] src dst []
  | .shrdRm16R16Imm8 dst src imm => encW dflt .s16 [0x0F#8, 0xAC#8] src dst [imm]
  | .shrdRm16R16Cl dst src => encW dflt .s16 [0x0F#8, 0xAD#8] src dst []
  | .shrdRm32R32Imm8 dst src imm => encW dflt .s32 [0x0F#8, 0xAC#8] src dst [imm]
  | .shrdRm32R32Cl dst src => encW dflt .s32 [0x0F#8, 0xAD#8] src dst []
  | .sldtRm16 dst => encW dflt .s16 [0x0F#8, 0x00#8] 0#3 dst []
  | .sldtRm32 dst => encW dflt .s32 [0x0F#8, 0x00#8] 0#3 dst []
  | .smswRm16 dst => encW dflt .s16 [0x0F#8, 0x01#8] 4#3 dst []
  | .smswR32M16 dst => encW dflt .s32 [0x0F#8, 0x01#8] 4#3 dst []
  | .stc => [0xF9#8]
  | .std => [0xFD#8]
  | .sti => [0xFB#8]
  | .stosM8 asz => asBytes dflt asz ++ [0xAA#8]
  | .stosM16 asz => osBytes dflt .s16 ++ asBytes dflt asz ++ [0xAB#8]
  | .stosM32 asz => osBytes dflt .s32 ++ asBytes dflt asz ++ [0xAB#8]
  | .stosb asz => asBytes dflt asz ++ [0xAA#8]
  | .stosw asz => osBytes dflt .s16 ++ asBytes dflt asz ++ [0xAB#8]
  | .stosd asz => osBytes dflt .s32 ++ asBytes dflt asz ++ [0xAB#8]
  | .strRm16 osz dst => encW dflt osz [0x0F#8, 0x00#8] 1#3 dst []
  | .subAlImm8 imm => [0x2C#8, imm]
  | .subAxImm16 imm => osBytes dflt .s16 ++ 0x2D#8 :: le16 imm
  | .subEaxImm32 imm => osBytes dflt .s32 ++ 0x2D#8 :: le32 imm
  | .subRm8Imm8 dst imm => enc8 dflt [0x80#8] 5#3 dst [imm]
  | .subRm16Imm16 dst imm => encW dflt .s16 [0x81#8] 5#3 dst (le16 imm)
  | .subRm32Imm32 dst imm => encW dflt .s32 [0x81#8] 5#3 dst (le32 imm)
  | .subRm16Imm8 dst imm => encW dflt .s16 [0x83#8] 5#3 dst [imm]
  | .subRm32Imm8 dst imm => encW dflt .s32 [0x83#8] 5#3 dst [imm]
  | .subRm8R8 dst src => enc8 dflt [0x28#8] src dst []
  | .subRm16R16 dst src => encW dflt .s16 [0x29#8] src dst []
  | .subRm32R32 dst src => encW dflt .s32 [0x29#8] src dst []
  | .subR8Rm8 dst src => enc8 dflt [0x2A#8] dst src []
  | .subR16Rm16 dst src => encW dflt .s16 [0x2B#8] dst src []
  | .subR32Rm32 dst src => encW dflt .s32 [0x2B#8] dst src []
  | .sysenter => [0x0F#8, 0x34#8]
  | .sysexit => [0x0F#8, 0x35#8]

/-! ## The host's table word -/

/-- The bytes of a table word: byte `k` of the instruction is bits `8k+7` to `8k` of `w`, the bits above `nbits` are 0, up
to the 15 bytes of the longest instruction (R118). -/
def tableBytes (nbits w : Nat) : List Byte :=
  (List.range 15).map fun k => BitVec.ofNat 8 ((w % 2 ^ nbits) >>> (8 * k))

/-- What the decoder reads from a table word, with both size attributes defaulting to 16 as in the model's reset state
(log entry 27). -/
def decodeTableWord (nbits w : Nat) : Option Instr :=
  match decode .s16 (tableBytes nbits w) with
  | .ok (i, _) => some i
  | .error _ => none

end Sys2Proof
end

