-- ==== Sys2Proof/Config.lean ====
section
/-! DEFINITION. What a processor fixes (ProcGen and its CPUID values), and the values the spec leaves
open, which are constants with no body: nothing can be proved of what they are. -/

namespace Sys2Proof

/-- The processor generations the spec names (00_scope.md R2, R8). -/
inductive ProcGen where
  | i8086
  | i286
  | i386
  | i486
  | pentium
  | pentiumPro
  | pentiumII
deriving DecidableEq, Repr

/-- Whether the generation has 32-bit registers: rows with a 32-bit operand are refused on the two
that have none (92_eei_decisions.md D3, 93_implementation_defined.md U23). -/
def ProcGen.has32 : ProcGen → Bool
  | .i8086 => false
  | .i286 => false
  | .i386 => true
  | .i486 => true
  | .pentium => true
  | .pentiumPro => true
  | .pentiumII => true

/-- Parameters of the step relation (00_scope.md R8, R9; 10_state.md R52, R58): constants of a
processor, no instruction writes them. -/
structure Config where
  /-- `ProcGen` (R8). -/
  procGen : ProcGen
  /-- `CpuidSEP`, feature bit 11 (60_exceptions.md R470). -/
  cpuidSep : Bool
  /-- `CpuidFamily`. -/
  cpuidFamily : Nat
  /-- `CpuidModel`. -/
  cpuidModel : Nat
  /-- `CpuidStepping`. -/
  cpuidStepping : Nat
deriving DecidableEq, Repr

/-- FREE VALUE. The `n`-th `UndefinedValue` draw of a run, at width `w` (00_scope.md R9, R18): one fresh
draw per use, `n` is the count of draws taken before it. Log entry 2. -/
opaque Config.undefinedBits (w n : Nat) : BitVec w

/-- FREE VALUE. What the byte at a linear address that nothing has written reads as after `n` draws: an
`UndefinedValue` draw of its own at each use (20_memory.md R79, 92_eei_decisions.md D9). Log entry 5. -/
opaque Config.unpopulatedByte (n lin : Nat) : BitVec 8

/-- FREE VALUE. Whether `n` bytes at offset `off` of an expand-down segment with byte limit `limit` lie
outside it: the spec gives no comparison for expand-down segments (20_memory.md R81,
91_not_in_source.md N22). Log entry 32. -/
opaque Config.expandDownOutside (limit off n : Nat) : Bool

end Sys2Proof
end

