-- ==== Sys2Proof/Machine/State.lean ====
section
/-! DEFINITION. The machine's state, the reasons a step can stop, and the state after reset. Every piece of state
that 10_state.md and 20_memory.md name is a field, plain data throughout. -/

namespace Sys2Proof.Machine

/-- EFLAGS (10_state.md R30 to R32), one field per flag. Bits 1, 3, 5, 15 and 31:22 are constants and are no
field: `Eflags.toWord` gives them (R37, log entry 11). -/
structure Eflags where
  /-- CF, bit 0. -/
  cf : Bool
  /-- PF, bit 2. -/
  pf : Bool
  /-- AF, bit 4. -/
  af : Bool
  /-- ZF, bit 6. -/
  zf : Bool
  /-- SF, bit 7. -/
  sf : Bool
  /-- TF, bit 8. -/
  tf : Bool
  /-- IF, bit 9. -/
  ifl : Bool
  /-- DF, bit 10. -/
  df : Bool
  /-- OF, bit 11. -/
  ofl : Bool
  /-- IOPL, bits 13:12. -/
  iopl : BitVec 2
  /-- NT, bit 14. -/
  nt : Bool
  /-- RF, bit 16. -/
  rf : Bool
  /-- VM, bit 17. -/
  vm : Bool
  /-- AC, bit 18. -/
  ac : Bool
  /-- VIF, bit 19. -/
  vif : Bool
  /-- VIP, bit 20. -/
  vip : Bool
  /-- ID, bit 21. -/
  idf : Bool
deriving DecidableEq, Repr

/-- A segment register: its selector and its attributes (10_state.md R40, R41). RPL is bits 1:0 of the selector; CPL is
one value of the processor and no field here (R42). -/
structure SegReg where
  /-- SEL. -/
  sel : Word16
  /-- BASE. -/
  base : Word32
  /-- LIMIT, the 20-bit field. -/
  limit : BitVec 20
  /-- G: the limit counts 4 KB pages. -/
  g : Bool
  /-- S. -/
  s : Bool
  /-- TYPE_xCRA, bit 3 x down to bit 0 A. -/
  typ : BitVec 4
  /-- D: 32-bit code or stack. -/
  d : Bool
  /-- DPL. -/
  dpl : BitVec 2
  /-- P. -/
  p : Bool
deriving DecidableEq, Repr

/-- GDTR and IDTR (10_state.md R45, R46). -/
structure TableReg where
  limit : Word16
  base : Word32
deriving DecidableEq, Repr

/-- The kinds of access of 20_memory.md R68, and the fetch of R74 and 60_exceptions.md R453. -/
inductive AccessKind where
  | read
  | write
  | readwrite
  | fetch
deriving DecidableEq, Repr

/-- One answer of the oracle `PageFault(lin, n, kind)` (20_memory.md R74): at CPL `cpl` this access faults with the
opaque `code`, at the byte `faultLin`. Log entry 7. -/
structure PageFaultEntry where
  lin : Word32
  n : Nat
  kind : AccessKind
  cpl : BitVec 2
  code : Nat
  faultLin : Word32
deriving DecidableEq, Repr

/-- What the outside offers at one instruction boundary: `NMIPending` and `ExternalInterruptPending` (10_state.md R56),
and, where the paging state changes, the oracle's answers from then on. Log entries 7 and 8. -/
structure BoundaryInput where
  nmi : Bool
  ext : Bool
  paging : Option (List PageFaultEntry)
deriving DecidableEq, Repr

/-- The operating mode, a function of state (10_state.md R54). -/
inductive Mode where
  | realAddress
  | protectedMode
  | virtual8086
deriving DecidableEq, Repr

/-- The exceptions of 60_exceptions.md R442. A `code` of `none` is the bare form of the real-address lists (R448). -/
inductive Exception where
  /-- #GP: CheckAccess outside SS, a fetch outside the CS limit, STI, SYSENTER, SYSEXIT (R443, R453). -/
  | gp (code : Option Nat)
  /-- #SS: CheckAccess outside the SS limit (R444). -/
  | ss (code : Option Nat)
  /-- #PF: the oracle's opaque code and the linear address of the faulting byte (R447). -/
  | pf (code : Nat) (lin : Word32)
  /-- #AC: CheckAccess, an unaligned reference (R446). -/
  | ac (code : Nat)
  /-- #UD, never with a code (R445). -/
  | ud
deriving DecidableEq, Repr

/-- The two kinds of interrupt outcome (60_exceptions.md R462). -/
inductive InterruptKind where
  | nmi
  | external
deriving DecidableEq, Repr

/-- The outcomes of 60_exceptions.md R440 and R462 that end a run. The state at the outcome is the state the step
began in: a fault changes nothing (R441), an interrupt is taken at the boundary. Delivery is not in the source
(R465), so stopping is the spec's own decision D20. Log entry 1. -/
inductive Fault where
  /-- `Exception(#XX, code)`: raised by a meaning or by the fetch. Safe: the hardware goes on in a handler the spec
  does not describe. -/
  | exception (e : Exception)
  /-- `Interrupt(kind)`: raised by step at an instruction boundary. Safe, for the same reason. -/
  | interrupt (k : InterruptKind)
deriving DecidableEq, Repr

/-- The instructions and launch choices the spec says a model refuses. -/
inductive Refusal where
  /-- exec: an instruction whose meaning is not written. Safe. No arm answers it now. -/
  | notModelled (mnemonic : String)
  /-- step: an instruction carrying F0h (30_encoding.md R99, D15). Safe: it stops where hardware may go on. -/
  | lockPrefix
  /-- step: an instruction carrying F2h or F3h (R98, D14). Safe: it stops where hardware repeats. -/
  | repPrefix
  /-- step: bytes outside the opcode tables (R117, D18). Safe: most are instructions the spec does not hold. -/
  | notInScope
  /-- step: more than 15 bytes on a processor before the Intel386 (R118, 93 U22). Safe. -/
  | instructionTooLong
  /-- exec: a row with a 32-bit operand on i8086 or i286 (92 D3, 93 U23). Safe: those have no 32-bit registers. -/
  | no32BitOperands
  /-- exec: SGDT or SIDT on i8086 (45_sgdt_sidt.md R284, D2). Safe: not described for it. -/
  | noDescriptorTables
deriving DecidableEq, Repr

/-- Everything the spec gives the machine. -/
structure State where
  /-- ProcGen and the CPUID constants: parameters, never written (10_state.md R58). -/
  cfg : Config
  /-- EAX, ECX, EDX, EBX, ESP, EBP, ESI, EDI (10_state.md R21). -/
  gpr : Vector Word32 8
  /-- EIP (R26). -/
  eip : Word32
  /-- EFLAGS (R30 to R32). -/
  flags : Eflags
  /-- CS (R39, R40). -/
  cs : SegReg
  /-- DS. -/
  ds : SegReg
  /-- ES. -/
  es : SegReg
  /-- FS. -/
  fs : SegReg
  /-- GS. -/
  gs : SegReg
  /-- SS. -/
  ss : SegReg
  /-- CPL (R42). -/
  cpl : BitVec 2
  /-- GDTR (R45). -/
  gdtr : TableReg
  /-- IDTR (R46). -/
  idtr : TableReg
  /-- LDTR.SegmentSelector (R47). -/
  ldtr : Word16
  /-- TR.SegmentSelector (R48). -/
  tr : Word16
  /-- CR0; PE is bit 0, AM bit 18 (R49, R50). -/
  cr0 : Word32
  /-- SYSENTER_CS_MSR, 174h (R51, D10). -/
  sysenterCs : Word16
  /-- SYSENTER_ESP_MSR, 175h. -/
  sysenterEsp : Word32
  /-- SYSENTER_EIP_MSR, 176h. -/
  sysenterEip : Word32
  /-- IntShadow (R55). -/
  intShadow : Bool
  /-- Memory: the bytes written, by linear address, strictly rising (20_memory.md R60, R79; log entries 5, 6). -/
  mem : List Host.Cell
  /-- The answers of the page-fault oracle (20_memory.md R74; log entry 7). -/
  pageFaults : List PageFaultEntry
  /-- What the coming instruction boundaries bring, the next one first (10_state.md R56; log entry 8). -/
  inputs : List BoundaryInput
  /-- The MODEL's own: how many `UndefinedValue` draws have been taken (00_scope.md R9; log entries 2, 5). -/
  draws : Nat
deriving DecidableEq, Repr

/-- The segment registers at reset: base SEL * 16, byte limit FFFFh, as 70_reset_and_hazards.md R481 asks of real-address
mode. DESIGN CHOICE, log entry 3. -/
def SegReg.reset : SegReg :=
  { sel := 0#16, base := 0#32, limit := 0xFFFF#20, g := false, s := false, typ := 0#4, d := false, dpl := 0#2,
    p := false }

/-- EFLAGS at reset: every field 0. DESIGN CHOICE, log entry 3. -/
def Eflags.reset : Eflags :=
  { cf := false, pf := false, af := false, zf := false, sf := false, tf := false, ifl := false, df := false,
    ofl := false, iopl := 0#2, nt := false, rf := false, vm := false, ac := false, vif := false, vip := false,
    idf := false }

/-- The state after reset. The spec gives no reset value and forbids those of other manuals (70_reset_and_hazards.md
R480): every value is the model's DESIGN CHOICE (log entries 2, 3, 4, 5, 7, 8), well-formed by R481. ProcGen is
the spec's default (92_eei_decisions.md D1). -/
def State.reset : State :=
  { cfg := { procGen := .pentiumII, cpuidSep := true, cpuidFamily := 6, cpuidModel := 3, cpuidStepping := 3 }
    gpr := Vector.replicate 8 0#32
    eip := 0#32
    flags := Eflags.reset
    cs := SegReg.reset, ds := SegReg.reset, es := SegReg.reset
    fs := SegReg.reset, gs := SegReg.reset, ss := SegReg.reset
    cpl := 0#2
    gdtr := { limit := 0#16, base := 0#32 }
    idtr := { limit := 0#16, base := 0#32 }
    ldtr := 0#16
    tr := 0#16
    cr0 := 0#32
    sysenterCs := 0#16
    sysenterEsp := 0#32
    sysenterEip := 0#32
    intShadow := false
    mem := []
    pageFaults := []
    inputs := []
    draws := 0 }

end Sys2Proof.Machine
end

