-- ==== Sys2Proof/Machine/Ops.lean ====
section
/-! DEFINITION. The named operations over registers, segments and memory: reading and writing, the checks on a memory
access (20_memory.md R68), raising an exception (60_exceptions.md R440), and completing an instruction. -/

namespace Sys2Proof.Machine

/-- What a meaning and a step answer. -/
abbrev Result := Host.Outcome State Fault Refusal

/-! ## Outcomes -/

/-- `raise #XX(code)` (60_exceptions.md R440, R441): the instruction is abandoned and changes nothing, the outcome is
terminal (92_eei_decisions.md D20, log entry 1). Entry to a handler and return from one are not in the source (R465,
R466). -/
def raise (e : Exception) : Result := .fault (.exception e)

/-! ## One-field updates -/

/-- The state with other general registers. -/
def State.withGpr (s : State) (v : Vector Word32 8) : State := { s with gpr := v }

/-- The state with another EIP. -/
def State.withEip (s : State) (v : Word32) : State := { s with eip := v }

/-- The state with other flags. -/
def State.withFlags (s : State) (v : Eflags) : State := { s with flags := v }

/-- The state with another IntShadow. -/
def State.withIntShadow (s : State) (v : Bool) : State := { s with intShadow := v }

/-- The state with other memory. -/
def State.withMem (s : State) (v : List Host.Cell) : State := { s with mem := v }

/-- The state with other page-fault answers. -/
def State.withPageFaults (s : State) (v : List PageFaultEntry) : State := { s with pageFaults := v }

/-- The state with other inputs to come. -/
def State.withInputs (s : State) (v : List BoundaryInput) : State := { s with inputs := v }

/-- The state with another count of draws. -/
def State.withDraws (s : State) (v : Nat) : State := { s with draws := v }

/-- A transfer between rings: CS, SS and CPL, ESP and EIP, all together (49_sub_sysenter_sysexit.md R408, R423). -/
def State.withRing (s : State) (cs ss : SegReg) (cpl : BitVec 2) (gpr : Vector Word32 8) (eip : Word32) : State :=
  { s with cs := cs, ss := ss, cpl := cpl, gpr := gpr, eip := eip }

/-! ## Undefined values (00_scope.md R18; log entry 2) -/

/-- The `j`-th fresh draw of this instruction, at width `w`. -/
def State.draw (s : State) (w j : Nat) : BitVec w := Config.undefinedBits w (s.draws + j)

/-- The `j`-th fresh draw of this instruction, one bit. -/
def State.drawBit (s : State) (j : Nat) : Bool := (s.draw 1 j).getLsbD 0

/-- After `k` draws. -/
def State.spend (s : State) (k : Nat) : State := s.withDraws (s.draws + k)

/-! ## General registers (10_state.md R21 to R23; log entry 10) -/

/-- `GPR32[n]`. -/
def State.reg32 (s : State) (n : RegNum) : Word32 := s.gpr[n.toNat]'n.isLt

/-- `GPR32[n] <- v`. -/
def State.setReg32 (s : State) (n : RegNum) (v : Word32) : State := s.withGpr (s.gpr.set n.toNat v n.isLt)

/-- The 32-bit register that `GPR8[n]` lies in: `n` for AL to BL, `n - 4` for AH to BH (R23). -/
def byteHome (n : RegNum) : RegNum := if n.getLsbD 2 then n - 4#3 else n

/-- `GPR8[n]`, `GPR16[n]` or `GPR32[n]`. -/
def State.readReg (s : State) (w : Width) (n : RegNum) : BitVec w.bits :=
  match w with
  | .w8 =>
    if n.getLsbD 2 then (s.reg32 (byteHome n)).extractLsb' 8 8 else (s.reg32 (byteHome n)).extractLsb' 0 8
  | .w16 => (s.reg32 n).extractLsb' 0 16
  | .w32 => s.reg32 n

/-- `old` with its low byte replaced. -/
def putLow8 (old : Word32) (v : Byte) : Word32 := old.extractLsb' 8 24 ++ v

/-- `old` with its bits 15:8 replaced. -/
def putHigh8 (old : Word32) (v : Byte) : Word32 := old.extractLsb' 16 16 ++ v ++ old.extractLsb' 0 8

/-- `old` with its low half replaced. -/
def putLow16 (old : Word32) (v : Word16) : Word32 := old.extractLsb' 16 16 ++ v

/-- Write `GPR8[n]`, `GPR16[n]` or `GPR32[n]`: the other bits of the 32-bit register keep their values (R22, R23). -/
def State.writeReg (s : State) (w : Width) (n : RegNum) (v : BitVec w.bits) : State :=
  match w, v with
  | .w8, v =>
    s.setReg32 (byteHome n)
      (if n.getLsbD 2 then putHigh8 (s.reg32 (byteHome n)) v else putLow8 (s.reg32 (byteHome n)) v)
  | .w16, v => s.setReg32 n (putLow16 (s.reg32 n) v)
  | .w32, v => s.setReg32 n v

/-! ## Mode and segments -/

/-- `CR0.PE` (10_state.md R49, R50). -/
def State.pe (s : State) : Bool := s.cr0.getLsbD 0

/-- The mode (R54). -/
def State.mode (s : State) : Mode :=
  if s.pe then (if s.flags.vm then .virtual8086 else .protectedMode) else .realAddress

/-- A segment register by name. -/
def State.seg (s : State) : SegName → SegReg
  | .cs => s.cs
  | .ds => s.ds
  | .es => s.es
  | .fs => s.fs
  | .gs => s.gs
  | .ss => s.ss

/-- Bits 15:2 all zero (R41). -/
def nullSelector (sel : Word16) : Bool := sel.extractLsb' 2 14 == 0#14

/-- `NonWritable` (20_memory.md R71): code, or data whose writable bit is 0. -/
def SegReg.nonWritable (r : SegReg) : Bool := r.typ.getLsbD 3 || !r.typ.getLsbD 1

/-- The byte limit (10_state.md R41, 20_memory.md R69). -/
def SegReg.byteLimit (r : SegReg) : Nat := if r.g then r.limit.toNat * 4096 + 4095 else r.limit.toNat

/-- An expand-down data segment: x = 0 and C = 1 (10_state.md R41). -/
def SegReg.expandDown (r : SegReg) : Bool := !r.typ.getLsbD 3 && r.typ.getLsbD 2

/-- `OutsideLimit` (20_memory.md R69), on natural numbers. The spec has no comparison for an expand-down segment: there
the answer is a free value, in protected mode only (log entry 32). -/
def outsideLimit (m : Mode) (r : SegReg) (off n : Nat) : Bool :=
  if m = .protectedMode ∧ r.expandDown = true then Config.expandDownOutside r.byteLimit off n
  else decide (r.byteLimit < off + n - 1)

/-! ## Locations and memory -/

/-- A memory location `seg:off` (20_memory.md R62) with the AddressSize its offsets wrap at (D5). -/
structure Loc where
  seg : SegName
  asz : Size
  off : Word32
deriving DecidableEq, Repr

/-- An offset modulo `2^AddressSize` (D5). -/
def wrapOffset (asz : Size) (off : Word32) : Word32 :=
  match asz with
  | .s16 => off &&& 0xFFFF#32
  | .s32 => off

/-- The linear address of byte `k` of the operand at a location (R63, R66). -/
def Loc.lin (l : Loc) (s : State) (k : Nat) : Word32 :=
  (s.seg l.seg).base + wrapOffset l.asz (l.off + BitVec.ofNat 32 k)

/-- What memory lists at an address. -/
def Mem.get? (m : List Host.Cell) (a : Nat) : Option Byte :=
  match m with
  | [] => none
  | c :: m' => if c.1 = a then some c.2 else Mem.get? m' a

/-- Write one byte, keeping the addresses strictly rising. -/
def Mem.set (m : List Host.Cell) (a : Nat) (v : Byte) : List Host.Cell :=
  match m with
  | [] => [(a, v)]
  | c :: m' =>
    if a < c.1 then (a, v) :: c :: m'
    else if a = c.1 then (a, v) :: m'
    else c :: Mem.set m' a v

/-- Write cells in order. -/
def Mem.setAll (m : List Host.Cell) : List Host.Cell → List Host.Cell
  | [] => m
  | c :: cs => Mem.setAll (Mem.set m c.1 c.2) cs

/-- The canonical form: addresses strictly rising, all in the 4 GB linear space (20_memory.md R63). An unlisted address
reads as a free value, to which no entry can be compared (log entry 5). -/
abbrev Mem.wf (m : List Host.Cell) : Prop :=
  m.Pairwise (fun c d => c.1 < d.1) ∧ ∀ c ∈ m, c.1 < 2 ^ 32

/-- The byte memory holds at a linear address, none where nothing has been written. -/
def State.heldAt (s : State) (lin : Word32) : Option Byte := Mem.get? s.mem lin.toNat

/-- What an unlisted address reads as, and what a listed one does: the ONE definition. An unlisted one reads as a draw
of this use: whoever reads takes a draw (R79, D9, 00_scope.md R18; log entry 5). -/
def State.byteAt (s : State) (lin : Word32) : Byte :=
  (s.heldAt lin).getD (Config.unpopulatedByte s.draws lin.toNat)

/-- `MemRead` of 1, 2 or 4 bytes after the checks, little-endian (R65, R66, D4). -/
def State.readLoc (s : State) (w : Width) (l : Loc) : BitVec w.bits :=
  match w with
  | .w8 => s.byteAt (l.lin s 0)
  | .w16 => s.byteAt (l.lin s 1) ++ s.byteAt (l.lin s 0)
  | .w32 => s.byteAt (l.lin s 3) ++ s.byteAt (l.lin s 2) ++ s.byteAt (l.lin s 1) ++ s.byteAt (l.lin s 0)

/-- The bytes of a value, the lowest first (R65). -/
def valueBytes (w : Width) (v : BitVec w.bits) : List Byte :=
  match w, v with
  | .w8, v => [v]
  | .w16, v => [v.extractLsb' 0 8, v.extractLsb' 8 8]
  | .w32, v => [v.extractLsb' 0 8, v.extractLsb' 8 8, v.extractLsb' 16 8, v.extractLsb' 24 8]

/-- The cells that bytes stored at a location fill, from byte `k` on, in ascending order (R66). -/
def Loc.cells (l : Loc) (s : State) (k : Nat) : List Byte → List Host.Cell
  | [] => []
  | b :: bs => ((l.lin s k).toNat, b) :: Loc.cells l s (k + 1) bs

/-- The byte stores of `MemWrite`, after the checks. -/
def State.storeBytes (s : State) (l : Loc) (bs : List Byte) : State :=
  s.withMem (Mem.setAll s.mem (l.cells s 0 bs))

/-- `MemWrite` of 1, 2 or 4 bytes after the checks. -/
def State.writeLoc (s : State) (w : Width) (l : Loc) (v : BitVec w.bits) : State :=
  s.storeBytes l (valueBytes w v)

/-! ## The checks on an access (20_memory.md R68) -/

/-- `Unaligned(a, n)` for 1, 2 and 4 bytes (R73), and for the 6 bytes of SGDT and SIDT, a word and then a doubleword
(45_sgdt_sidt.md R286). -/
def unaligned (a n : Nat) : Bool :=
  match n with
  | 2 => a % 2 != 0
  | 4 => a % 4 != 0
  | 6 => a % 2 != 0 || (a + 2) % 4 != 0
  | _ => false

/-- `AlignmentCheckingEnabled`: CR0.AM and EFLAGS.AC (R73; log entry 9). -/
def State.alignmentCheckingEnabled (s : State) : Bool := s.cr0.getLsbD 18 && s.flags.ac

/-- `AlignmentCheckApplies` (R72). -/
def State.alignmentCheckApplies (s : State) (lin : Word32) (n : Nat) : Bool :=
  s.alignmentCheckingEnabled && s.cpl == 3#2 && unaligned lin.toNat n

/-- The oracle `PageFault(lin, n, kind)` (R74; log entry 7). -/
def State.pageFault (s : State) (lin : Word32) (n : Nat) (kind : AccessKind) : Option PageFaultEntry :=
  s.pageFaults.find? fun e => e.lin == lin && e.n == n && e.kind == kind && e.cpl == s.cpl

/-- The error code of #GP and #SS from a memory check: bare in real-address mode, else 0 (60_exceptions.md R448). -/
def limitCode (m : Mode) : Option Nat := if m = .realAddress then none else some 0

/-- R70: a null DS, ES, FS or GS used in protected mode. -/
def State.nullCheck (s : State) (seg : SegName) : Bool :=
  s.mode == .protectedMode && seg != .ss && seg != .cs && nullSelector (s.seg seg).sel

/-- R71: a write through a nonwritable segment in protected mode. -/
def State.writeCheck (s : State) (seg : SegName) (kind : AccessKind) : Bool :=
  s.mode == .protectedMode && kind != .read && (s.seg seg).nonWritable

/-- `CheckAccess(seg, off, n, kind)`: the exception the access raises, the first condition that holds (R68, D6). -/
def checkAccess (s : State) (l : Loc) (n : Nat) (kind : AccessKind) : Option Exception :=
  if s.nullCheck l.seg then some (.gp (some 0))
  else if s.writeCheck l.seg kind then some (.gp (some 0))
  else if outsideLimit s.mode (s.seg l.seg) l.off.toNat n then
    some (if l.seg = .ss then .ss (limitCode s.mode) else .gp (limitCode s.mode))
  else if s.mode = .realAddress then none
  else if s.alignmentCheckApplies (l.lin s 0) n then some (.ac 0)
  else (s.pageFault (l.lin s 0) n kind).map fun e => .pf e.code e.faultLin

/-- Run the checks of one access, then go on; a failing check raises before anything is read or written (R76). -/
def withAccess (s : State) (l : Loc) (n : Nat) (kind : AccessKind) (go : Result) : Result :=
  match checkAccess s l n kind with
  | some e => raise e
  | none => go

/-- An instruction other than STI completes: IntShadow is cleared (10_state.md R55). -/
def complete (s : State) : Result := .next (s.withIntShadow false)

/-- A row with a 32-bit operand is refused where there are no 32-bit registers (92_eei_decisions.md D3). DESIGN CHOICE, log
entry 15: no other row is held back on an earlier processor; which rows one has the source does not say. -/
def need32 (s : State) (w : Width) (go : Result) : Result :=
  if w = .w32 ∧ s.cfg.procGen.has32 = false then .refused .no32BitOperands else go

end Sys2Proof.Machine
end

