-- ==== Sys2Proof/Machine/Operands.lean ====
section
/-! DEFINITION. Operand forms: effective addresses and segments of ModR/M memory operands (30_encoding.md R101 to
R103), `r/m` operands (R104), immediates (R106) and the string location (20_memory.md R89). -/

namespace Sys2Proof.Machine

/-! ## Effective addresses -/

/-- `BX`, `BP`, `SI`, `DI`: `GPR16` of 3, 5, 6, 7. -/
def State.reg16 (s : State) (n : RegNum) : Word16 := s.readReg .w16 n

/-- The register sum of a 16-bit form, modulo 2^16 (R102). -/
def base16Value (s : State) : Base16 → Word16
  | .bxSi => s.reg16 3#3 + s.reg16 6#3
  | .bxDi => s.reg16 3#3 + s.reg16 7#3
  | .bpSi => s.reg16 5#3 + s.reg16 6#3
  | .bpDi => s.reg16 5#3 + s.reg16 7#3
  | .si => s.reg16 6#3
  | .di => s.reg16 7#3
  | .bp => s.reg16 5#3
  | .bx => s.reg16 3#3

/-- A displacement at 16 bits: disp8 is sign-extended (R102). -/
def disp16Value : Disp16 → Word16
  | .none => 0#16
  | .d8 d => d.signExtend 16
  | .d16 d => d

/-- A displacement at 32 bits: disp8 is sign-extended (R101). -/
def disp32Value : Disp32 → Word32
  | .none => 0#32
  | .d8 d => d.signExtend 32
  | .d32 d => d

/-- `Index << scale`, 0 without an index (R101). -/
def scaledIndex (s : State) (scale : BitVec 2) (index : Option RegNum) : Word32 :=
  match index with
  | none => 0#32
  | some n => s.reg32 n <<< scale.toNat

/-- The effective address with AddressSize 16 (R102). -/
def ea16 (s : State) : Addr16 → Word16
  | .base b d => base16Value s b + disp16Value d
  | .direct d => d

/-- The effective address with AddressSize 32 (R101). -/
def ea32 (s : State) : Addr32 → Word32
  | .base b d => s.reg32 b + disp32Value d
  | .direct d => d
  | .sib scale index b d => s.reg32 b + scaledIndex s scale index + disp32Value d
  | .sibNoBase scale index d => d + scaledIndex s scale index

/-- The effective address as an offset (20_memory.md R62). -/
def effAddr (s : State) : EffAddr → Word32
  | .a16 a => (ea16 s a).zeroExtend 32
  | .a32 a => ea32 s a

/-- The default segment of a 16-bit form: SS where BP is summed (R102). -/
def defaultSeg16 : Addr16 → SegName
  | .base .bpSi _ => .ss
  | .base .bpDi _ => .ss
  | .base .bp _ => .ss
  | .base .bxSi _ => .ds
  | .base .bxDi _ => .ds
  | .base .si _ => .ds
  | .base .di _ => .ds
  | .base .bx _ => .ds
  | .direct _ => .ds

/-- The default segment of a 32-bit form: SS where the base is EBP, or ESP in a SIB (R101). -/
def defaultSeg32 : Addr32 → SegName
  | .base b _ => if b = 5#3 then .ss else .ds
  | .direct _ => .ds
  | .sib _ _ b _ => if b = 4#3 ∨ b = 5#3 then .ss else .ds
  | .sibNoBase _ _ _ => .ds

/-- The default segment of an addressing form. -/
def defaultSeg : EffAddr → SegName
  | .a16 a => defaultSeg16 a
  | .a32 a => defaultSeg32 a

/-- The location of a ModR/M memory operand: the override replaces the default segment (R103). -/
def memLoc (m : MemRef) (s : State) : Loc :=
  { seg := m.override.getD (defaultSeg m.ea), asz := m.ea.size, off := effAddr s m.ea }

/-! ## `r/m` operands (R104) -/

/-- The checks on an `r/m` operand of `n` bytes: none on a register. -/
def withRmAccess (s : State) (rm : RM) (n : Nat) (kind : AccessKind) (go : Result) : Result :=
  match rm with
  | .reg _ => go
  | .mem m => withAccess s (memLoc m s) n kind go

/-- `ReadRM(w)`, after the checks. -/
def readRm (s : State) (w : Width) (rm : RM) : BitVec w.bits :=
  match rm with
  | .reg n => s.readReg w n
  | .mem m => s.readLoc w (memLoc m s)

/-- The draws `ReadRM` takes: one where it reads memory, which may hold nothing (20_memory.md R79; log entry 5). -/
def rmDraws : RM → Nat
  | .reg _ => 0
  | .mem _ => 1

/-- `WriteRM(w, v)`, after the checks. -/
def writeRm (s : State) (w : Width) (rm : RM) (v : BitVec w.bits) : State :=
  match rm with
  | .reg n => s.writeReg w n v
  | .mem m => s.writeLoc w (memLoc m s) v

/-- An imm8 sign-extended to the operand width (R106, 42_sbb.md R211, 49_sub_sysenter_sysexit.md R404). -/
def signExtImm (w : Width) (imm : Byte) : BitVec w.bits := imm.signExtend w.bits

/-! ## The string forms -/

/-- `ES:(E)DI` (20_memory.md R86, R87, R89): no override replaces ES. -/
def stringLoc (s : State) (asz : Size) : Loc :=
  { seg := .es, asz := asz, off := wrapOffset asz (s.reg32 7#3) }

/-- (E)DI stepped by the operand's bytes, down when DF is set, modulo `2^AddressSize` (R89, 43_scas.md R217): with
AddressSize 16, bits 31:16 of EDI keep their values. -/
def stepDi (s : State) (asz : Size) (w : Width) : State :=
  match asz with
  | .s16 =>
    let di := s.readReg .w16 7#3
    s.writeReg .w16 7#3
      (if s.flags.df then di - BitVec.ofNat 16 w.bytes else di + BitVec.ofNat 16 w.bytes)
  | .s32 =>
    let edi := s.reg32 7#3
    s.writeReg .w32 7#3
      (if s.flags.df then edi - BitVec.ofNat 32 w.bytes else edi + BitVec.ofNat 32 w.bytes)

end Sys2Proof.Machine
end

