-- ==== Sys2Proof/Machine/Flags.lean ====
section
/-! DEFINITION. Every flag computation of the spec: the EFLAGS word, parity, the flags of a result, of a subtraction
(42_sbb.md R192), of a shift (41_shift.md R146, R147), of a double shift (46_shld_shrd.md R299, R301), and the
sixteen conditions (44_setcc.md R237). -/

namespace Sys2Proof.Machine

/-- EFLAGS as the 32-bit register (10_state.md R30 to R32): the reserved bits 1, 3, 5 read 1, 0, 0 (R37). -/
def Eflags.toWord (f : Eflags) : Word32 :=
  0#10 ++ BitVec.ofBool f.idf ++ BitVec.ofBool f.vip ++ BitVec.ofBool f.vif ++ BitVec.ofBool f.ac ++
    BitVec.ofBool f.vm ++ BitVec.ofBool f.rf ++ 0#1 ++ BitVec.ofBool f.nt ++ f.iopl ++ BitVec.ofBool f.ofl ++
    BitVec.ofBool f.df ++ BitVec.ofBool f.ifl ++ BitVec.ofBool f.tf ++ BitVec.ofBool f.sf ++
    BitVec.ofBool f.zf ++ 0#1 ++ BitVec.ofBool f.af ++ 0#1 ++ BitVec.ofBool f.pf ++ 1#1 ++ BitVec.ofBool f.cf

/-- `parity8(v)`: bits 7:0 hold an even number of 1s (10_state.md R36). -/
def parity8 {w : Nat} (v : BitVec w) : Bool :=
  !(v.getLsbD 0 ^^ v.getLsbD 1 ^^ v.getLsbD 2 ^^ v.getLsbD 3 ^^
    v.getLsbD 4 ^^ v.getLsbD 5 ^^ v.getLsbD 6 ^^ v.getLsbD 7)

/-- SF, ZF and PF "according to the result" (R36). -/
def Eflags.ofResult {w : Nat} (f : Eflags) (r : BitVec w) : Eflags :=
  { f with sf := r.msb, zf := r == 0#w, pf := parity8 r }

/-- The result `trunc_w(a - b - cin)`: the subtrahend is a sum of naturals, not truncated (42_sbb.md R191). -/
def subResult {w : Nat} (a b : BitVec w) (cin : Bool) : BitVec w := BitVec.ofInt w (a.toNat - b.toNat - cin.toNat)

/-- OF of a subtraction: the exact signed difference does not fit the width (R192). -/
def subOverflow {w : Nat} (a b : BitVec w) (cin : Bool) : Bool :=
  decide ((subResult a b cin).toInt ≠ a.toInt - b.toInt - cin.toNat)

/-- `SubFlags_w(a, b, cin)` (R192): the six status flags, no other. -/
def subFlags {w : Nat} (f : Eflags) (a b : BitVec w) (cin : Bool) : Eflags :=
  { f.ofResult (subResult a b cin) with
    cf := decide (a.toNat < b.toNat + cin.toNat)
    ofl := subOverflow a b cin
    af := decide (a.toNat % 16 < b.toNat % 16 + cin.toNat) }

/-- The three shift functions (41_shift.md R140): SAL is SHL. -/
inductive ShiftOp where
  | shl
  | sar
  | shr
deriving DecidableEq, Repr

/-- The result of a shift by `c >= 1`, in the closed forms of R143 to R145. -/
def shiftResult {w : Nat} (op : ShiftOp) (d : BitVec w) (c : Nat) : BitVec w :=
  match op with
  | .shl => d <<< c
  | .sar => d.sshiftRight c
  | .shr => d >>> c

/-- The last bit shifted out by `c >= 1`, in the closed forms of R143 to R145: beyond the width 0 for SHL and SHR, the
sign for SAR. R146 says where CF takes it. -/
def shiftCarry {w : Nat} (op : ShiftOp) (d : BitVec w) (c : Nat) : Bool :=
  match op with
  | .shl => if c ≤ w then d.getLsbD (w - c) else false
  | .sar => if c ≤ w then d.getLsbD (c - 1) else d.msb
  | .shr => d.getLsbD (c - 1)

/-- CF is undefined for SHL and SHR at or past the width (R146, 90_conflicts.md C18). -/
def shiftCarryUndefined (op : ShiftOp) (w c : Nat) : Bool := op != .sar && decide (w ≤ c)

/-- OF after a shift by 1 (R147). -/
def shiftOverflowOne {w : Nat} (op : ShiftOp) (d : BitVec w) : Bool :=
  match op with
  | .shl => (shiftResult .shl d 1).msb ^^ shiftCarry .shl d 1
  | .sar => false
  | .shr => d.msb

/-- The flags after a shift by `c >= 1` (R146, R147); `uAf`, `uOf`, `uCf` are the fresh draws. -/
def shiftFlags {w : Nat} (f : Eflags) (op : ShiftOp) (d : BitVec w) (c : Nat) (uAf uOf uCf : Bool) : Eflags :=
  { f.ofResult (shiftResult op d c) with
    cf := if shiftCarryUndefined op w c then uCf else shiftCarry op d c
    af := uAf
    ofl := if c = 1 then shiftOverflowOne op d else uOf }

/-- The two double shifts. -/
inductive DoubleShiftOp where
  | shld
  | shrd
deriving DecidableEq, Repr

/-- The result for `1 <= c <= w-1`, in the closed forms of 46_shld_shrd.md R297 and R298. -/
def dshiftResult {w : Nat} (op : DoubleShiftOp) (d src : BitVec w) (c : Nat) : BitVec w :=
  match op with
  | .shld => (d <<< c) ||| (src >>> (w - c))
  | .shrd => (d >>> c) ||| (src <<< (w - c))

/-- CF for `1 <= c <= w-1` (R297, R298). -/
def dshiftCarry {w : Nat} (op : DoubleShiftOp) (d : BitVec w) (c : Nat) : Bool :=
  match op with
  | .shld => d.getLsbD (w - c)
  | .shrd => d.getLsbD (c - 1)

/-- The flags for `1 <= c <= w-1` (R299); `uAf`, `uOf` are the fresh draws. -/
def dshiftFlags {w : Nat} (f : Eflags) (op : DoubleShiftOp) (d src : BitVec w) (c : Nat) (uAf uOf : Bool) : Eflags :=
  { f.ofResult (dshiftResult op d src c) with
    cf := dshiftCarry op d c
    af := uAf
    ofl := if c = 1 then d.msb ^^ (dshiftResult op d src c).msb else uOf }

/-- All six status flags drawn, independently (R301). -/
def undefinedFlags (f : Eflags) (uCf uOf uSf uZf uAf uPf : Bool) : Eflags :=
  { f with cf := uCf, ofl := uOf, sf := uSf, zf := uZf, af := uAf, pf := uPf }

/-- `Cond(cc, EFLAGS)` (44_setcc.md R237): odd `cc` negates the even one below it. -/
def condHolds (cc : BitVec 4) (f : Eflags) : Bool :=
  let even :=
    match (cc.extractLsb' 1 3).toNat with
    | 0 => f.ofl
    | 1 => f.cf
    | 2 => f.zf
    | 3 => f.cf || f.zf
    | 4 => f.sf
    | 5 => f.pf
    | 6 => f.sf != f.ofl
    | _ => f.zf || f.sf != f.ofl
  cc.getLsbD 0 ^^ even

end Sys2Proof.Machine
end

