-- ==== Sys2Proof/Machine/Shift.lean ====
section
/-! DEFINITION. SAL, SAR, SHL, SHR (41_shift.md): the common procedure `ShiftInstr` of R141 and the thirty-six rows. -/

namespace Sys2Proof.Machine

/-- `MaskCount(raw)` (R142): 5 bits, but the i8086 does not mask. -/
def maskCount (g : ProcGen) (raw : Byte) : Nat := if g = .i8086 then raw.toNat else (raw &&& 0x1F#8).toNat

/-- `CL`, which is `GPR8[1]`. -/
def State.cl (s : State) : Byte := s.readReg .w8 1#3

/-- The state after a shift by a masked count `c >= 1`: destination and flags written from the original destination; AF, OF
and CF draw 0, 1, 2 where R146 and R147 leave them undefined. -/
def shiftState (w : Width) (op : ShiftOp) (dst : RM) (c : Nat) (s : State) : State :=
  let d := readRm s w dst
  ((writeRm s w dst (shiftResult op d c)).withFlags
    (shiftFlags s.flags op d c (s.drawBit 0) (s.drawBit 1) (s.drawBit 2))).spend 3

/-- `ShiftInstr(kind, w, raw)` (R141): the checks are made for a masked count of 0 too, which then changes nothing
(R148, D19). Which rows exist on the i8086 the source does not say and R142 makes no claim: DESIGN CHOICE, log entry 15,
every row of 8 or 16 bits runs there, imm8 counts (C0, C1) included. -/
def shiftInstr (w : Width) (op : ShiftOp) (dst : RM) (raw : Byte) (s : State) : Result :=
  need32 s w <| withRmAccess s dst w.bytes .readwrite <|
    if maskCount s.cfg.procGen raw = 0 then complete s
    else complete (shiftState w op dst (maskCount s.cfg.procGen raw) s)

/-- SAL_r_m8_1 (R150). -/
def execSalRm8One (dst : RM) (s : State) : Result := shiftInstr .w8 .shl dst 1#8 s

/-- SAL_r_m8_CL (R151). -/
def execSalRm8Cl (dst : RM) (s : State) : Result := shiftInstr .w8 .shl dst s.cl s

/-- SAL_r_m8_imm8 (R152). -/
def execSalRm8Imm8 (dst : RM) (imm : Byte) (s : State) : Result := shiftInstr .w8 .shl dst imm s

/-- SAL_r_m16_1 (R153). -/
def execSalRm16One (dst : RM) (s : State) : Result := shiftInstr .w16 .shl dst 1#8 s

/-- SAL_r_m16_CL (R154). -/
def execSalRm16Cl (dst : RM) (s : State) : Result := shiftInstr .w16 .shl dst s.cl s

/-- SAL_r_m16_imm8 (R155). -/
def execSalRm16Imm8 (dst : RM) (imm : Byte) (s : State) : Result := shiftInstr .w16 .shl dst imm s

/-- SAL_r_m32_1 (R156). -/
def execSalRm32One (dst : RM) (s : State) : Result := shiftInstr .w32 .shl dst 1#8 s

/-- SAL_r_m32_CL (R157). -/
def execSalRm32Cl (dst : RM) (s : State) : Result := shiftInstr .w32 .shl dst s.cl s

/-- SAL_r_m32_imm8 (R158). -/
def execSalRm32Imm8 (dst : RM) (imm : Byte) (s : State) : Result := shiftInstr .w32 .shl dst imm s

/-- SAR_r_m8_1 (R159). -/
def execSarRm8One (dst : RM) (s : State) : Result := shiftInstr .w8 .sar dst 1#8 s

/-- SAR_r_m8_CL (R160). -/
def execSarRm8Cl (dst : RM) (s : State) : Result := shiftInstr .w8 .sar dst s.cl s

/-- SAR_r_m8_imm8 (R161). -/
def execSarRm8Imm8 (dst : RM) (imm : Byte) (s : State) : Result := shiftInstr .w8 .sar dst imm s

/-- SAR_r_m16_1 (R162). -/
def execSarRm16One (dst : RM) (s : State) : Result := shiftInstr .w16 .sar dst 1#8 s

/-- SAR_r_m16_CL (R163). -/
def execSarRm16Cl (dst : RM) (s : State) : Result := shiftInstr .w16 .sar dst s.cl s

/-- SAR_r_m16_imm8 (R164). -/
def execSarRm16Imm8 (dst : RM) (imm : Byte) (s : State) : Result := shiftInstr .w16 .sar dst imm s

/-- SAR_r_m32_1 (R165). -/
def execSarRm32One (dst : RM) (s : State) : Result := shiftInstr .w32 .sar dst 1#8 s

/-- SAR_r_m32_CL (R166). -/
def execSarRm32Cl (dst : RM) (s : State) : Result := shiftInstr .w32 .sar dst s.cl s

/-- SAR_r_m32_imm8 (R167). -/
def execSarRm32Imm8 (dst : RM) (imm : Byte) (s : State) : Result := shiftInstr .w32 .sar dst imm s

/-- SHL_r_m8_1 (R168). -/
def execShlRm8One (dst : RM) (s : State) : Result := shiftInstr .w8 .shl dst 1#8 s

/-- SHL_r_m8_CL (R169). -/
def execShlRm8Cl (dst : RM) (s : State) : Result := shiftInstr .w8 .shl dst s.cl s

/-- SHL_r_m8_imm8 (R170). -/
def execShlRm8Imm8 (dst : RM) (imm : Byte) (s : State) : Result := shiftInstr .w8 .shl dst imm s

/-- SHL_r_m16_1 (R171). -/
def execShlRm16One (dst : RM) (s : State) : Result := shiftInstr .w16 .shl dst 1#8 s

/-- SHL_r_m16_CL (R172). -/
def execShlRm16Cl (dst : RM) (s : State) : Result := shiftInstr .w16 .shl dst s.cl s

/-- SHL_r_m16_imm8 (R173). -/
def execShlRm16Imm8 (dst : RM) (imm : Byte) (s : State) : Result := shiftInstr .w16 .shl dst imm s

/-- SHL_r_m32_1 (R174). -/
def execShlRm32One (dst : RM) (s : State) : Result := shiftInstr .w32 .shl dst 1#8 s

/-- SHL_r_m32_CL (R175). -/
def execShlRm32Cl (dst : RM) (s : State) : Result := shiftInstr .w32 .shl dst s.cl s

/-- SHL_r_m32_imm8 (R176). -/
def execShlRm32Imm8 (dst : RM) (imm : Byte) (s : State) : Result := shiftInstr .w32 .shl dst imm s

/-- SHR_r_m8_1 (R177). -/
def execShrRm8One (dst : RM) (s : State) : Result := shiftInstr .w8 .shr dst 1#8 s

/-- SHR_r_m8_CL (R178). -/
def execShrRm8Cl (dst : RM) (s : State) : Result := shiftInstr .w8 .shr dst s.cl s

/-- SHR_r_m8_imm8 (R179). -/
def execShrRm8Imm8 (dst : RM) (imm : Byte) (s : State) : Result := shiftInstr .w8 .shr dst imm s

/-- SHR_r_m16_1 (R180). -/
def execShrRm16One (dst : RM) (s : State) : Result := shiftInstr .w16 .shr dst 1#8 s

/-- SHR_r_m16_CL (R181). -/
def execShrRm16Cl (dst : RM) (s : State) : Result := shiftInstr .w16 .shr dst s.cl s

/-- SHR_r_m16_imm8 (R182). -/
def execShrRm16Imm8 (dst : RM) (imm : Byte) (s : State) : Result := shiftInstr .w16 .shr dst imm s

/-- SHR_r_m32_1 (R183). -/
def execShrRm32One (dst : RM) (s : State) : Result := shiftInstr .w32 .shr dst 1#8 s

/-- SHR_r_m32_CL (R184). -/
def execShrRm32Cl (dst : RM) (s : State) : Result := shiftInstr .w32 .shr dst s.cl s

/-- SHR_r_m32_imm8 (R185). -/
def execShrRm32Imm8 (dst : RM) (imm : Byte) (s : State) : Result := shiftInstr .w32 .shr dst imm s

end Sys2Proof.Machine
end

