-- ==== Sys2Proof/Machine/DoubleShift.lean ====
section
/-! DEFINITION. SHLD and SHRD (46_shld_shrd.md): the common procedure `DoubleShiftInstr` of R296 and the eight rows. -/

namespace Sys2Proof.Machine

/-- The count modulo 32, on every ProcGen (R296). -/
def maskCount5 (raw : Byte) : Nat := (raw &&& 0x1F#8).toNat

/-- The state for a masked count at or past the width (R301): destination and six flags are separate draws. -/
def dshiftUndefinedState (w : Width) (dst : RM) (s : State) : State :=
  ((writeRm s w dst (s.draw w.bits 0)).withFlags
    (undefinedFlags s.flags (s.drawBit 1) (s.drawBit 2) (s.drawBit 3) (s.drawBit 4) (s.drawBit 5) (s.drawBit 6))).spend 7

/-- The state for a masked count from 1 below the width (R297 to R299); AF and OF are draws 0 and 1. -/
def dshiftState (w : Width) (op : DoubleShiftOp) (dst : RM) (src : BitVec w.bits) (c : Nat) (s : State) : State :=
  let d := readRm s w dst
  ((writeRm s w dst (dshiftResult op d src c)).withFlags
    (dshiftFlags s.flags op d src c (s.drawBit 0) (s.drawBit 1))).spend 2

/-- `DoubleShiftInstr(kind, w, raw)` (R296): a masked count of 0 changes nothing after the checks (R300, D19). -/
def dshiftInstr (w : Width) (op : DoubleShiftOp) (dst : RM) (src : RegNum) (raw : Byte) (s : State) : Result :=
  need32 s w <| withRmAccess s dst w.bytes .readwrite <|
    if maskCount5 raw = 0 then complete s
    else if w.bits ≤ maskCount5 raw then complete (dshiftUndefinedState w dst s)
    else complete (dshiftState w op dst (s.readReg w src) (maskCount5 raw) s)

/-- SHLD_r_m16_r16_imm8 (R302). -/
def execShldRm16R16Imm8 (dst : RM) (src : RegNum) (imm : Byte) (s : State) : Result := dshiftInstr .w16 .shld dst src imm s

/-- SHLD_r_m16_r16_CL (R303). -/
def execShldRm16R16Cl (dst : RM) (src : RegNum) (s : State) : Result := dshiftInstr .w16 .shld dst src s.cl s

/-- SHLD_r_m32_r32_imm8 (R304). -/
def execShldRm32R32Imm8 (dst : RM) (src : RegNum) (imm : Byte) (s : State) : Result := dshiftInstr .w32 .shld dst src imm s

/-- SHLD_r_m32_r32_CL (R305). -/
def execShldRm32R32Cl (dst : RM) (src : RegNum) (s : State) : Result := dshiftInstr .w32 .shld dst src s.cl s

/-- SHRD_r_m16_r16_imm8 (R312). -/
def execShrdRm16R16Imm8 (dst : RM) (src : RegNum) (imm : Byte) (s : State) : Result := dshiftInstr .w16 .shrd dst src imm s

/-- SHRD_r_m16_r16_CL (R313). -/
def execShrdRm16R16Cl (dst : RM) (src : RegNum) (s : State) : Result := dshiftInstr .w16 .shrd dst src s.cl s

/-- SHRD_r_m32_r32_imm8 (R314). -/
def execShrdRm32R32Imm8 (dst : RM) (src : RegNum) (imm : Byte) (s : State) : Result := dshiftInstr .w32 .shrd dst src imm s

/-- SHRD_r_m32_r32_CL (R315). -/
def execShrdRm32R32Cl (dst : RM) (src : RegNum) (s : State) : Result := dshiftInstr .w32 .shrd dst src s.cl s

end Sys2Proof.Machine
end

