-- ==== Sys2Proof/Machine/FastCall.lean ====
section
/-! DEFINITION. SYSENTER and SYSEXIT (49_sub_sysenter_sysexit.md): the fast system call pair, the one entry and return
the spec gives whole (60_exceptions.md R467). -/

namespace Sys2Proof.Machine

/-- `FastSystemCallPresent` (60_exceptions.md R470): the source's predicate, false on every Pentium Pro. -/
def fastSystemCallPresent (c : Config) : Bool :=
  c.cpuidSep && !(c.cpuidFamily == 6 && decide (c.cpuidModel < 3) && decide (c.cpuidStepping < 3)) &&
    c.procGen != .pentiumPro

/-- The fixed attributes both instructions load (R410, R425): base 0, the 4 GB limit (R411, 90_conflicts.md C5). -/
def flatSegment (sel : Word16) (typ : BitVec 4) (dpl : BitVec 2) : SegReg :=
  { sel := sel, base := 0#32, limit := 0xFFFFF#20, g := true, s := true, typ := typ, d := true, dpl := dpl, p := true }

/-- `SysenterCS` (R410, R412). -/
def sysenterCsSeg (m : Word16) : SegReg := flatSegment (m &&& 0xFFFC#16) 0b1011#4 0#2

/-- `SysenterSS` (R410, R412): the sum is kept to 16 bits. -/
def sysenterSsSeg (m : Word16) : SegReg := flatSegment ((m &&& 0xFFFC#16) + 8#16) 0b0011#4 0#2

/-- `SysexitCS` (R425). -/
def sysexitCsSeg (m : Word16) : SegReg := flatSegment (((m + 16#16) &&& 0xFFFC#16) ||| 3#16) 0b1011#4 3#2

/-- `SysexitSS` (R425). -/
def sysexitSsSeg (m : Word16) : SegReg := flatSegment (((m + 24#16) &&& 0xFFFC#16) ||| 3#16) 0b0011#4 3#2

/-- The state SYSENTER enters: VM and IF cleared, ring 0, ESP and EIP from the MSRs (R408). -/
def sysenterState (s : State) : State :=
  (s.withFlags { s.flags with vm := false, ifl := false }).withRing (sysenterCsSeg s.sysenterCs)
    (sysenterSsSeg s.sysenterCs) 0#2 (s.setReg32 4#3 s.sysenterEsp).gpr s.sysenterEip

/-- The state SYSEXIT enters: ring 3, ESP from ECX and EIP from EDX, no flag written (R423). -/
def sysexitState (s : State) : State :=
  s.withRing (sysexitCsSeg s.sysenterCs) (sysexitSsSeg s.sysenterCs) 3#2
    (s.setReg32 4#3 (s.reg32 1#3)).gpr (s.reg32 2#3)

/-- SYSENTER (R408, R409): #UD without the facility (D17), #GP(0) in real-address mode or with a zero MSR. -/
def execSysenter (s : State) : Result :=
  if fastSystemCallPresent s.cfg = false then raise .ud
  else if s.pe = false then raise (.gp (some 0))
  else if s.sysenterCs = 0#16 then raise (.gp (some 0))
  else complete (sysenterState s)

/-- SYSEXIT (R423, R424): #UD without the facility, #GP(0) with a zero MSR, in real-address mode, with CPL not 0, and in
virtual-8086 mode, where CPL is 3. -/
def execSysexit (s : State) : Result :=
  if fastSystemCallPresent s.cfg = false then raise .ud
  else if s.sysenterCs = 0#16 then raise (.gp (some 0))
  else if s.pe = false then raise (.gp (some 0))
  else if s.cpl ≠ 0#2 ∨ s.mode = .virtual8086 then raise (.gp (some 0))
  else complete (sysexitState s)

end Sys2Proof.Machine
end

