-- ==== Sys2Proof/Machine/FlagOps.lean ====
section
/-! DEFINITION. SAHF (40_sahf.md), STC, STD, STI (48_stc_std_sti_stos_str.md). -/

namespace Sys2Proof.Machine

/-- The flags SAHF loads from AH; bits 1, 3 and 5 are ignored (R130). -/
def sahfFlags (f : Eflags) (ah : Byte) : Eflags :=
  { f with
    sf := ah.getLsbD 7, zf := ah.getLsbD 6, af := ah.getLsbD 4, pf := ah.getLsbD 2, cf := ah.getLsbD 0 }

/-- SAHF (R130). -/
def execSahf (s : State) : Result := complete (s.withFlags (sahfFlags s.flags (s.readReg .w8 4#3)))

/-- STC (R345). -/
def execStc (s : State) : Result := complete (s.withFlags { s.flags with cf := true })

/-- STD (R350). -/
def execStd (s : State) : Result := complete (s.withFlags { s.flags with df := true })

/-- `STI_Allowed` (R356, 90_conflicts.md C4): the decision table and the exception list, not the pseudocode. -/
def stiAllowed (s : State) : Bool :=
  match s.mode with
  | .realAddress => true
  | .protectedMode => decide (s.cpl.toNat ≤ s.flags.iopl.toNat)
  | .virtual8086 => s.flags.iopl == 3#2

/-- STI (R355): IntShadow is set when IF goes from 0 to 1, else cleared (R358, D21). -/
def execSti (s : State) : Result :=
  if stiAllowed s then .next ((s.withFlags { s.flags with ifl := true }).withIntShadow (!s.flags.ifl))
  else raise (.gp (some 0))

end Sys2Proof.Machine
end

