-- ==== Sys2Proof/Machine/SetCc.lean ====
section
/-! DEFINITION. SETcc (44_setcc.md): the operation of R236 and the thirty rows. -/

namespace Sys2Proof.Machine

/-- `SETcc` (R236): the whole byte is written, 01h or 00h. -/
def setcc (cc : BitVec 4) (dst : RM) (s : State) : Result :=
  withRmAccess s dst 1 .write <| complete (writeRm s .w8 dst (if condHolds cc s.flags then 1#8 else 0#8))

/-- SETA_r_m8 (R240). -/
def execSeta (dst : RM) (s : State) : Result := setcc 0x7#4 dst s

/-- SETAE_r_m8 (R241). -/
def execSetae (dst : RM) (s : State) : Result := setcc 0x3#4 dst s

/-- SETB_r_m8 (R242). -/
def execSetb (dst : RM) (s : State) : Result := setcc 0x2#4 dst s

/-- SETBE_r_m8 (R243). -/
def execSetbe (dst : RM) (s : State) : Result := setcc 0x6#4 dst s

/-- SETC_r_m8 (R244). -/
def execSetc (dst : RM) (s : State) : Result := setcc 0x2#4 dst s

/-- SETE_r_m8 (R245). -/
def execSete (dst : RM) (s : State) : Result := setcc 0x4#4 dst s

/-- SETG_r_m8 (R246). -/
def execSetg (dst : RM) (s : State) : Result := setcc 0xF#4 dst s

/-- SETGE_r_m8 (R247). -/
def execSetge (dst : RM) (s : State) : Result := setcc 0xD#4 dst s

/-- SETL_r_m8 (R248). -/
def execSetl (dst : RM) (s : State) : Result := setcc 0xC#4 dst s

/-- SETLE_r_m8 (R249). -/
def execSetle (dst : RM) (s : State) : Result := setcc 0xE#4 dst s

/-- SETNA_r_m8 (R250). -/
def execSetna (dst : RM) (s : State) : Result := setcc 0x6#4 dst s

/-- SETNAE_r_m8 (R251). -/
def execSetnae (dst : RM) (s : State) : Result := setcc 0x2#4 dst s

/-- SETNB_r_m8 (R252). -/
def execSetnb (dst : RM) (s : State) : Result := setcc 0x3#4 dst s

/-- SETNBE_r_m8 (R253). -/
def execSetnbe (dst : RM) (s : State) : Result := setcc 0x7#4 dst s

/-- SETNC_r_m8 (R254). -/
def execSetnc (dst : RM) (s : State) : Result := setcc 0x3#4 dst s

/-- SETNE_r_m8 (R255). -/
def execSetne (dst : RM) (s : State) : Result := setcc 0x5#4 dst s

/-- SETNG_r_m8 (R256). -/
def execSetng (dst : RM) (s : State) : Result := setcc 0xE#4 dst s

/-- SETNGE_r_m8 (R257). -/
def execSetnge (dst : RM) (s : State) : Result := setcc 0xC#4 dst s

/-- SETNL_r_m8 (R258). -/
def execSetnl (dst : RM) (s : State) : Result := setcc 0xD#4 dst s

/-- SETNLE_r_m8 (R259). -/
def execSetnle (dst : RM) (s : State) : Result := setcc 0xF#4 dst s

/-- SETNO_r_m8 (R260). -/
def execSetno (dst : RM) (s : State) : Result := setcc 0x1#4 dst s

/-- SETNP_r_m8 (R261). -/
def execSetnp (dst : RM) (s : State) : Result := setcc 0xB#4 dst s

/-- SETNS_r_m8 (R262). -/
def execSetns (dst : RM) (s : State) : Result := setcc 0x9#4 dst s

/-- SETNZ_r_m8 (R263). -/
def execSetnz (dst : RM) (s : State) : Result := setcc 0x5#4 dst s

/-- SETO_r_m8 (R264). -/
def execSeto (dst : RM) (s : State) : Result := setcc 0x0#4 dst s

/-- SETP_r_m8 (R265). -/
def execSetp (dst : RM) (s : State) : Result := setcc 0xA#4 dst s

/-- SETPE_r_m8 (R266). -/
def execSetpe (dst : RM) (s : State) : Result := setcc 0xA#4 dst s

/-- SETPO_r_m8 (R267). -/
def execSetpo (dst : RM) (s : State) : Result := setcc 0xB#4 dst s

/-- SETS_r_m8 (R268). -/
def execSets (dst : RM) (s : State) : Result := setcc 0x8#4 dst s

/-- SETZ_r_m8 (R269). -/
def execSetz (dst : RM) (s : State) : Result := setcc 0x4#4 dst s

end Sys2Proof.Machine
end

