-- ==== Sys2Proof/Machine/StringOps.lean ====
section
/-! DEFINITION. SCAS and STOS (43_scas.md, 48_stc_std_sti_stos_str.md): the operations of R216 and R364 and the twelve
rows. -/

namespace Sys2Proof.Machine

/-- `SCAS_w` (R216): flags of accumulator minus memory, then (E)DI is stepped; the read
takes a draw (log entry 5). -/
def scas (w : Width) (asz : Size) (s : State) : Result :=
  need32 s w <| withAccess s (stringLoc s asz) w.bytes .read <|
    complete ((stepDi (s.withFlags
      (subFlags s.flags (s.readReg w 0#3) (s.readLoc w (stringLoc s asz)) false)) asz w).spend 1)

/-- `STOS_w` (R364): the accumulator is stored, then (E)DI is stepped. -/
def stos (w : Width) (asz : Size) (s : State) : Result :=
  need32 s w <| withAccess s (stringLoc s asz) w.bytes .write <|
    complete (stepDi (s.writeLoc w (stringLoc s asz) (s.readReg w 0#3)) asz w)

/-- SCAS_m8 (R219). -/
def execScasM8 (asz : Size) (s : State) : Result := scas .w8 asz s

/-- SCAS_m16 (R220). -/
def execScasM16 (asz : Size) (s : State) : Result := scas .w16 asz s

/-- SCAS_m32 (R221). -/
def execScasM32 (asz : Size) (s : State) : Result := scas .w32 asz s

/-- SCASB (R222). -/
def execScasb (asz : Size) (s : State) : Result := scas .w8 asz s

/-- SCASW (R223). -/
def execScasw (asz : Size) (s : State) : Result := scas .w16 asz s

/-- SCASD (R224). -/
def execScasd (asz : Size) (s : State) : Result := scas .w32 asz s

/-- STOS_m8 (R366). -/
def execStosM8 (asz : Size) (s : State) : Result := stos .w8 asz s

/-- STOS_m16 (R367). -/
def execStosM16 (asz : Size) (s : State) : Result := stos .w16 asz s

/-- STOS_m32 (R368). -/
def execStosM32 (asz : Size) (s : State) : Result := stos .w32 asz s

/-- STOSB (R369). -/
def execStosb (asz : Size) (s : State) : Result := stos .w8 asz s

/-- STOSW (R370). -/
def execStosw (asz : Size) (s : State) : Result := stos .w16 asz s

/-- STOSD (R371). -/
def execStosd (asz : Size) (s : State) : Result := stos .w32 asz s

end Sys2Proof.Machine
end

