-- ==== Sys2Proof/Machine/Subtract.lean ====
section
/-! DEFINITION. SBB and SUB (42_sbb.md, 49_sub_sysenter_sysexit.md): the operations of R191 and R386 and the
twenty-eight rows. `carry` says whether CF is subtracted too: SBB, not SUB (R403). -/

namespace Sys2Proof.Machine

/-- The borrow in: CF for SBB, 0 for SUB. -/
def borrowIn (carry : Bool) (s : State) : Bool := carry && s.flags.cf

/-- Subtract `b` from an `r/m` destination (R191, R386): one readwrite access. -/
def subToRm (w : Width) (carry : Bool) (dst : RM) (b : BitVec w.bits) (s : State) : Result :=
  need32 s w <| withRmAccess s dst w.bytes .readwrite <|
    complete (((writeRm s w dst (subResult (readRm s w dst) b (borrowIn carry s))).withFlags
      (subFlags s.flags (readRm s w dst) b (borrowIn carry s))).spend (rmDraws dst))

/-- Subtract an `r/m` source from a register (R191, R386): one read access. -/
def subFromRm (w : Width) (carry : Bool) (dst : RegNum) (src : RM) (s : State) : Result :=
  need32 s w <| withRmAccess s src w.bytes .read <|
    complete (((s.writeReg w dst (subResult (s.readReg w dst) (readRm s w src) (borrowIn carry s))).withFlags
      (subFlags s.flags (s.readReg w dst) (readRm s w src) (borrowIn carry s))).spend (rmDraws src))

/-- Subtract an immediate from the accumulator, `GPR[0]` of the width (R191, R386): no access. -/
def subFromAcc (w : Width) (carry : Bool) (b : BitVec w.bits) (s : State) : Result :=
  need32 s w <|
    complete ((s.writeReg w 0#3 (subResult (s.readReg w 0#3) b (borrowIn carry s))).withFlags
      (subFlags s.flags (s.readReg w 0#3) b (borrowIn carry s)))

/-- SBB_AL_imm8 (R194). -/
def execSbbAlImm8 (imm : Byte) (s : State) : Result := subFromAcc .w8 true imm s

/-- SBB_AX_imm16 (R195). -/
def execSbbAxImm16 (imm : Word16) (s : State) : Result := subFromAcc .w16 true imm s

/-- SBB_EAX_imm32 (R196). -/
def execSbbEaxImm32 (imm : Word32) (s : State) : Result := subFromAcc .w32 true imm s

/-- SBB_r_m8_imm8 (R197). -/
def execSbbRm8Imm8 (dst : RM) (imm : Byte) (s : State) : Result := subToRm .w8 true dst imm s

/-- SBB_r_m16_imm16 (R198). -/
def execSbbRm16Imm16 (dst : RM) (imm : Word16) (s : State) : Result := subToRm .w16 true dst imm s

/-- SBB_r_m32_imm32 (R199). -/
def execSbbRm32Imm32 (dst : RM) (imm : Word32) (s : State) : Result := subToRm .w32 true dst imm s

/-- SBB_r_m16_imm8 (R200). -/
def execSbbRm16Imm8 (dst : RM) (imm : Byte) (s : State) : Result := subToRm .w16 true dst (signExtImm .w16 imm) s

/-- SBB_r_m32_imm8 (R201). -/
def execSbbRm32Imm8 (dst : RM) (imm : Byte) (s : State) : Result := subToRm .w32 true dst (signExtImm .w32 imm) s

/-- SBB_r_m8_r8 (R202). -/
def execSbbRm8R8 (dst : RM) (src : RegNum) (s : State) : Result := subToRm .w8 true dst (s.readReg .w8 src) s

/-- SBB_r_m16_r16 (R203). -/
def execSbbRm16R16 (dst : RM) (src : RegNum) (s : State) : Result := subToRm .w16 true dst (s.readReg .w16 src) s

/-- SBB_r_m32_r32 (R204). -/
def execSbbRm32R32 (dst : RM) (src : RegNum) (s : State) : Result := subToRm .w32 true dst (s.readReg .w32 src) s

/-- SBB_r8_r_m8 (R205). -/
def execSbbR8Rm8 (dst : RegNum) (src : RM) (s : State) : Result := subFromRm .w8 true dst src s

/-- SBB_r16_r_m16 (R206). -/
def execSbbR16Rm16 (dst : RegNum) (src : RM) (s : State) : Result := subFromRm .w16 true dst src s

/-- SBB_r32_r_m32 (R207). -/
def execSbbR32Rm32 (dst : RegNum) (src : RM) (s : State) : Result := subFromRm .w32 true dst src s

/-- SUB_AL_imm8 (R388). -/
def execSubAlImm8 (imm : Byte) (s : State) : Result := subFromAcc .w8 false imm s

/-- SUB_AX_imm16 (R389). -/
def execSubAxImm16 (imm : Word16) (s : State) : Result := subFromAcc .w16 false imm s

/-- SUB_EAX_imm32 (R390). -/
def execSubEaxImm32 (imm : Word32) (s : State) : Result := subFromAcc .w32 false imm s

/-- SUB_r_m8_imm8 (R391). -/
def execSubRm8Imm8 (dst : RM) (imm : Byte) (s : State) : Result := subToRm .w8 false dst imm s

/-- SUB_r_m16_imm16 (R392). -/
def execSubRm16Imm16 (dst : RM) (imm : Word16) (s : State) : Result := subToRm .w16 false dst imm s

/-- SUB_r_m32_imm32 (R393). -/
def execSubRm32Imm32 (dst : RM) (imm : Word32) (s : State) : Result := subToRm .w32 false dst imm s

/-- SUB_r_m16_imm8 (R394). -/
def execSubRm16Imm8 (dst : RM) (imm : Byte) (s : State) : Result := subToRm .w16 false dst (signExtImm .w16 imm) s

/-- SUB_r_m32_imm8 (R395). -/
def execSubRm32Imm8 (dst : RM) (imm : Byte) (s : State) : Result := subToRm .w32 false dst (signExtImm .w32 imm) s

/-- SUB_r_m8_r8 (R396). -/
def execSubRm8R8 (dst : RM) (src : RegNum) (s : State) : Result := subToRm .w8 false dst (s.readReg .w8 src) s

/-- SUB_r_m16_r16 (R397). -/
def execSubRm16R16 (dst : RM) (src : RegNum) (s : State) : Result := subToRm .w16 false dst (s.readReg .w16 src) s

/-- SUB_r_m32_r32 (R398). -/
def execSubRm32R32 (dst : RM) (src : RegNum) (s : State) : Result := subToRm .w32 false dst (s.readReg .w32 src) s

/-- SUB_r8_r_m8 (R399). -/
def execSubR8Rm8 (dst : RegNum) (src : RM) (s : State) : Result := subFromRm .w8 false dst src s

/-- SUB_r16_r_m16 (R400). -/
def execSubR16Rm16 (dst : RegNum) (src : RM) (s : State) : Result := subFromRm .w16 false dst src s

/-- SUB_r32_r_m32 (R401). -/
def execSubR32Rm32 (dst : RegNum) (src : RM) (s : State) : Result := subFromRm .w32 false dst src s

end Sys2Proof.Machine
end

