-- ==== Sys2Proof/Machine/SystemStore.lean ====
section
/-! DEFINITION. SGDT, SIDT (45_sgdt_sidt.md), SLDT, SMSW (47_sldt_smsw.md) and STR (48_stc_std_sti_stos_str.md). -/

namespace Sys2Proof.Machine

/-- The sixth byte of a 16-bit store (R284, D2): FFh on the i286, else 00h. -/
def sixthByte (g : ProcGen) : Byte := if g = .i286 then 0xFF#8 else 0x00#8

/-- The six bytes stored (R283). -/
def tableRegBytes (osz : Size) (g : ProcGen) (t : TableReg) : List Byte :=
  [t.limit.extractLsb' 0 8, t.limit.extractLsb' 8 8,
    t.base.extractLsb' 0 8, t.base.extractLsb' 8 8, t.base.extractLsb' 16 8,
    match osz with
    | .s16 => sixthByte g
    | .s32 => t.base.extractLsb' 24 8]

/-- SGDT and SIDT (R281, R282): a register operand is #UD in every mode (R285); the i8086 has no such registers and is
refused (R284, D2). -/
def storeTable (t : TableReg) (osz : Size) (dst : RM) (s : State) : Result :=
  if s.cfg.procGen = .i8086 then .refused .noDescriptorTables
  else
    match dst with
    | .reg _ => raise .ud
    | .mem m =>
      withAccess s (memLoc m s) 6 .write <|
        complete (s.storeBytes (memLoc m s) (tableRegBytes osz s.cfg.procGen t))

/-- Store 16 bits in a 16-bit register or a word of memory. -/
def storeWord (dst : RM) (v : Word16) (s : State) : Result :=
  withRmAccess s dst 2 .write <| complete (writeRm s .w16 dst v)

/-- Store 16 bits with OperandSize 32: a register takes `high` above them, memory a word "regardless of the operand
size". `draws` undefined values are spent on `high`. -/
def storeWordHigh (dst : RM) (high v : Word16) (draws : Nat) (s : State) : Result :=
  match dst with
  | .reg n => complete ((s.setReg32 n (high ++ v)).spend draws)
  | .mem _ => storeWord dst v s

/-- SLDT and STR are not recognized outside protected mode (R329, R377). -/
def protectedOnly (s : State) (go : Result) : Result := if s.mode = .protectedMode then go else raise .ud

/-- Whether bits 31:16 after SLDT to a 32-bit register are undefined (R328, D3). -/
def sldtHighUndefined : ProcGen → Bool
  | .i8086 => false
  | .i286 => false
  | .i386 => true
  | .i486 => true
  | .pentium => true
  | .pentiumPro => false
  | .pentiumII => false

/-- SGDT_m (R281). -/
def execSgdt (osz : Size) (dst : RM) (s : State) : Result := storeTable s.gdtr osz dst s

/-- SIDT_m (R282). -/
def execSidt (osz : Size) (dst : RM) (s : State) : Result := storeTable s.idtr osz dst s

/-- SLDT_r_m16 (R326). -/
def execSldtRm16 (dst : RM) (s : State) : Result := protectedOnly s <| storeWord dst s.ldtr s

/-- SLDT_r_m32 (R327, R328). -/
def execSldtRm32 (dst : RM) (s : State) : Result :=
  need32 s .w32 <| protectedOnly s <|
    if sldtHighUndefined s.cfg.procGen then storeWordHigh dst (s.draw 16 0) s.ldtr 1 s
    else storeWordHigh dst 0#16 s.ldtr 0 s

/-- SMSW_r_m16 (R336). -/
def execSmswRm16 (dst : RM) (s : State) : Result := storeWord dst (s.cr0.extractLsb' 0 16) s

/-- SMSW_r32_m16 (R337, R339), on every ProcGen (95_test_vectors.md T10; log entry 15). -/
def execSmswR32M16 (dst : RM) (s : State) : Result :=
  storeWordHigh dst (s.draw 16 0) (s.cr0.extractLsb' 0 16) 1 s

/-- STR_r_m16 (R375, R376). -/
def execStrRm16 (osz : Size) (dst : RM) (s : State) : Result :=
  protectedOnly s <|
    match osz with
    | .s16 => storeWord dst s.tr s
    | .s32 => storeWordHigh dst 0#16 s.tr 0 s

end Sys2Proof.Machine
end

