-- ==== Sys2Proof/Machine/Dispatch.lean ====
section
/-! DEFINITION. One arm per instruction, each a call of its meaning. -/

namespace Sys2Proof.Machine

def exec (i : Instr) (s : State) : Host.Outcome State Fault Refusal :=
  match i with
  | .sahf => Sys2Proof.Machine.execSahf s
  | .salRm8One dst => Sys2Proof.Machine.execSalRm8One dst s
  | .salRm8Cl dst => Sys2Proof.Machine.execSalRm8Cl dst s
  | .salRm8Imm8 dst imm => Sys2Proof.Machine.execSalRm8Imm8 dst imm s
  | .salRm16One dst => Sys2Proof.Machine.execSalRm16One dst s
  | .salRm16Cl dst => Sys2Proof.Machine.execSalRm16Cl dst s
  | .salRm16Imm8 dst imm => Sys2Proof.Machine.execSalRm16Imm8 dst imm s
  | .salRm32One dst => Sys2Proof.Machine.execSalRm32One dst s
  | .salRm32Cl dst => Sys2Proof.Machine.execSalRm32Cl dst s
  | .salRm32Imm8 dst imm => Sys2Proof.Machine.execSalRm32Imm8 dst imm s
  | .sarRm8One dst => Sys2Proof.Machine.execSarRm8One dst s
  | .sarRm8Cl dst => Sys2Proof.Machine.execSarRm8Cl dst s
  | .sarRm8Imm8 dst imm => Sys2Proof.Machine.execSarRm8Imm8 dst imm s
  | .sarRm16One dst => Sys2Proof.Machine.execSarRm16One dst s
  | .sarRm16Cl dst => Sys2Proof.Machine.execSarRm16Cl dst s
  | .sarRm16Imm8 dst imm => Sys2Proof.Machine.execSarRm16Imm8 dst imm s
  | .sarRm32One dst => Sys2Proof.Machine.execSarRm32One dst s
  | .sarRm32Cl dst => Sys2Proof.Machine.execSarRm32Cl dst s
  | .sarRm32Imm8 dst imm => Sys2Proof.Machine.execSarRm32Imm8 dst imm s
  | .shlRm8One dst => Sys2Proof.Machine.execShlRm8One dst s
  | .shlRm8Cl dst => Sys2Proof.Machine.execShlRm8Cl dst s
  | .shlRm8Imm8 dst imm => Sys2Proof.Machine.execShlRm8Imm8 dst imm s
  | .shlRm16One dst => Sys2Proof.Machine.execShlRm16One dst s
  | .shlRm16Cl dst => Sys2Proof.Machine.execShlRm16Cl dst s
  | .shlRm16Imm8 dst imm => Sys2Proof.Machine.execShlRm16Imm8 dst imm s
  | .shlRm32One dst => Sys2Proof.Machine.execShlRm32One dst s
  | .shlRm32Cl dst => Sys2Proof.Machine.execShlRm32Cl dst s
  | .shlRm32Imm8 dst imm => Sys2Proof.Machine.execShlRm32Imm8 dst imm s
  | .shrRm8One dst => Sys2Proof.Machine.execShrRm8One dst s
  | .shrRm8Cl dst => Sys2Proof.Machine.execShrRm8Cl dst s
  | .shrRm8Imm8 dst imm => Sys2Proof.Machine.execShrRm8Imm8 dst imm s
  | .shrRm16One dst => Sys2Proof.Machine.execShrRm16One dst s
  | .shrRm16Cl dst => Sys2Proof.Machine.execShrRm16Cl dst s
  | .shrRm16Imm8 dst imm => Sys2Proof.Machine.execShrRm16Imm8 dst imm s
  | .shrRm32One dst => Sys2Proof.Machine.execShrRm32One dst s
  | .shrRm32Cl dst => Sys2Proof.Machine.execShrRm32Cl dst s
  | .shrRm32Imm8 dst imm => Sys2Proof.Machine.execShrRm32Imm8 dst imm s
  | .sbbAlImm8 imm => Sys2Proof.Machine.execSbbAlImm8 imm s
  | .sbbAxImm16 imm => Sys2Proof.Machine.execSbbAxImm16 imm s
  | .sbbEaxImm32 imm => Sys2Proof.Machine.execSbbEaxImm32 imm s
  | .sbbRm8Imm8 dst imm => Sys2Proof.Machine.execSbbRm8Imm8 dst imm s
  | .sbbRm16Imm16 dst imm => Sys2Proof.Machine.execSbbRm16Imm16 dst imm s
  | .sbbRm32Imm32 dst imm => Sys2Proof.Machine.execSbbRm32Imm32 dst imm s
  | .sbbRm16Imm8 dst imm => Sys2Proof.Machine.execSbbRm16Imm8 dst imm s
  | .sbbRm32Imm8 dst imm => Sys2Proof.Machine.execSbbRm32Imm8 dst imm s
  | .sbbRm8R8 dst src => Sys2Proof.Machine.execSbbRm8R8 dst src s
  | .sbbRm16R16 dst src => Sys2Proof.Machine.execSbbRm16R16 dst src s
  | .sbbRm32R32 dst src => Sys2Proof.Machine.execSbbRm32R32 dst src s
  | .sbbR8Rm8 dst src => Sys2Proof.Machine.execSbbR8Rm8 dst src s
  | .sbbR16Rm16 dst src => Sys2Proof.Machine.execSbbR16Rm16 dst src s
  | .sbbR32Rm32 dst src => Sys2Proof.Machine.execSbbR32Rm32 dst src s
  | .scasM8 asz => Sys2Proof.Machine.execScasM8 asz s
  | .scasM16 asz => Sys2Proof.Machine.execScasM16 asz s
  | .scasM32 asz => Sys2Proof.Machine.execScasM32 asz s
  | .scasb asz => Sys2Proof.Machine.execScasb asz s
  | .scasw asz => Sys2Proof.Machine.execScasw asz s
  | .scasd asz => Sys2Proof.Machine.execScasd asz s
  | .seta dst => Sys2Proof.Machine.execSeta dst s
  | .setae dst => Sys2Proof.Machine.execSetae dst s
  | .setb dst => Sys2Proof.Machine.execSetb dst s
  | .setbe dst => Sys2Proof.Machine.execSetbe dst s
  | .setc dst => Sys2Proof.Machine.execSetc dst s
  | .sete dst => Sys2Proof.Machine.execSete dst s
  | .setg dst => Sys2Proof.Machine.execSetg dst s
  | .setge dst => Sys2Proof.Machine.execSetge dst s
  | .setl dst => Sys2Proof.Machine.execSetl dst s
  | .setle dst => Sys2Proof.Machine.execSetle dst s
  | .setna dst => Sys2Proof.Machine.execSetna dst s
  | .setnae dst => Sys2Proof.Machine.execSetnae dst s
  | .setnb dst => Sys2Proof.Machine.execSetnb dst s
  | .setnbe dst => Sys2Proof.Machine.execSetnbe dst s
  | .setnc dst => Sys2Proof.Machine.execSetnc dst s
  | .setne dst => Sys2Proof.Machine.execSetne dst s
  | .setng dst => Sys2Proof.Machine.execSetng dst s
  | .setnge dst => Sys2Proof.Machine.execSetnge dst s
  | .setnl dst => Sys2Proof.Machine.execSetnl dst s
  | .setnle dst => Sys2Proof.Machine.execSetnle dst s
  | .setno dst => Sys2Proof.Machine.execSetno dst s
  | .setnp dst => Sys2Proof.Machine.execSetnp dst s
  | .setns dst => Sys2Proof.Machine.execSetns dst s
  | .setnz dst => Sys2Proof.Machine.execSetnz dst s
  | .seto dst => Sys2Proof.Machine.execSeto dst s
  | .setp dst => Sys2Proof.Machine.execSetp dst s
  | .setpe dst => Sys2Proof.Machine.execSetpe dst s
  | .setpo dst => Sys2Proof.Machine.execSetpo dst s
  | .sets dst => Sys2Proof.Machine.execSets dst s
  | .setz dst => Sys2Proof.Machine.execSetz dst s
  | .sgdt osz dst => Sys2Proof.Machine.execSgdt osz dst s
  | .sidt osz dst => Sys2Proof.Machine.execSidt osz dst s
  | .shldRm16R16Imm8 dst src imm => Sys2Proof.Machine.execShldRm16R16Imm8 dst src imm s
  | .shldRm16R16Cl dst src => Sys2Proof.Machine.execShldRm16R16Cl dst src s
  | .shldRm32R32Imm8 dst src imm => Sys2Proof.Machine.execShldRm32R32Imm8 dst src imm s
  | .shldRm32R32Cl dst src => Sys2Proof.Machine.execShldRm32R32Cl dst src s
  | .shrdRm16R16Imm8 dst src imm => Sys2Proof.Machine.execShrdRm16R16Imm8 dst src imm s
  | .shrdRm16R16Cl dst src => Sys2Proof.Machine.execShrdRm16R16Cl dst src s
  | .shrdRm32R32Imm8 dst src imm => Sys2Proof.Machine.execShrdRm32R32Imm8 dst src imm s
  | .shrdRm32R32Cl dst src => Sys2Proof.Machine.execShrdRm32R32Cl dst src s
  | .sldtRm16 dst => Sys2Proof.Machine.execSldtRm16 dst s
  | .sldtRm32 dst => Sys2Proof.Machine.execSldtRm32 dst s
  | .smswRm16 dst => Sys2Proof.Machine.execSmswRm16 dst s
  | .smswR32M16 dst => Sys2Proof.Machine.execSmswR32M16 dst s
  | .stc => Sys2Proof.Machine.execStc s
  | .std => Sys2Proof.Machine.execStd s
  | .sti => Sys2Proof.Machine.execSti s
  | .stosM8 asz => Sys2Proof.Machine.execStosM8 asz s
  | .stosM16 asz => Sys2Proof.Machine.execStosM16 asz s
  | .stosM32 asz => Sys2Proof.Machine.execStosM32 asz s
  | .stosb asz => Sys2Proof.Machine.execStosb asz s
  | .stosw asz => Sys2Proof.Machine.execStosw asz s
  | .stosd asz => Sys2Proof.Machine.execStosd asz s
  | .strRm16 osz dst => Sys2Proof.Machine.execStrRm16 osz dst s
  | .subAlImm8 imm => Sys2Proof.Machine.execSubAlImm8 imm s
  | .subAxImm16 imm => Sys2Proof.Machine.execSubAxImm16 imm s
  | .subEaxImm32 imm => Sys2Proof.Machine.execSubEaxImm32 imm s
  | .subRm8Imm8 dst imm => Sys2Proof.Machine.execSubRm8Imm8 dst imm s
  | .subRm16Imm16 dst imm => Sys2Proof.Machine.execSubRm16Imm16 dst imm s
  | .subRm32Imm32 dst imm => Sys2Proof.Machine.execSubRm32Imm32 dst imm s
  | .subRm16Imm8 dst imm => Sys2Proof.Machine.execSubRm16Imm8 dst imm s
  | .subRm32Imm8 dst imm => Sys2Proof.Machine.execSubRm32Imm8 dst imm s
  | .subRm8R8 dst src => Sys2Proof.Machine.execSubRm8R8 dst src s
  | .subRm16R16 dst src => Sys2Proof.Machine.execSubRm16R16 dst src s
  | .subRm32R32 dst src => Sys2Proof.Machine.execSubRm32R32 dst src s
  | .subR8Rm8 dst src => Sys2Proof.Machine.execSubR8Rm8 dst src s
  | .subR16Rm16 dst src => Sys2Proof.Machine.execSubR16Rm16 dst src s
  | .subR32Rm32 dst src => Sys2Proof.Machine.execSubR32Rm32 dst src s
  | .sysenter => Sys2Proof.Machine.execSysenter s
  | .sysexit => Sys2Proof.Machine.execSysexit s

end Sys2Proof.Machine
end

