-- ==== Sys2Proof/Machine/Fetch.lean ====
section
/-! DEFINITION. Instruction boundaries (60_exceptions.md R462) and fetching: the bytes at CS:EIP, the faults on them
(R453, 30_encoding.md R118) and the advance of EIP (10_state.md R27, 92_eei_decisions.md D31). -/

namespace Sys2Proof.Machine

/-! ## The boundary -/

/-- What the coming boundary brings: nothing pending where the list has ended (log entry 8). -/
def nextInput (s : State) : BoundaryInput :=
  match s.inputs with
  | [] => { nmi := false, ext := false, paging := none }
  | i :: _ => i

/-- The state past the boundary: its input used up, new page-fault answers in force. -/
def passBoundary (s : State) : State :=
  match s.inputs with
  | [] => s
  | i :: is => (s.withPageFaults (i.paging.getD s.pageFaults)).withInputs is

/-- R462: NMI whatever IF and IntShadow hold; an external interrupt with IF = 1 and IntShadow = 0. -/
def recognized (i : BoundaryInput) (s : State) : Option InterruptKind :=
  if i.nmi then some .nmi
  else if i.ext && s.flags.ifl && !s.intShadow then some .external
  else none

/-! ## The fetch -/

/-- The default of OperandSize and AddressSize (30_encoding.md R96). -/
def codeSize (s : State) : Size := if s.mode = .protectedMode ∧ s.cs.d = true then .s32 else .s16

/-- Where EIP and the fetch offsets wrap: by CS.D (D31; log entry 13). -/
def eipWrap (s : State) : Size := if s.cs.d then .s32 else .s16

/-- The location CS:EIP. -/
def codeLoc (s : State) : Loc := { seg := .cs, asz := eipWrap s, off := s.eip }

/-- The bytes at CS:EIP from byte `k` on, at most `n`, up to the CS limit (R453). -/
def fetchBytes (s : State) : Nat → Nat → List Byte
  | 0, _ => []
  | n + 1, k =>
    if outsideLimit s.mode s.cs s.eip.toNat (k + 1) then []
    else s.byteAt ((codeLoc s).lin s k) :: fetchBytes s n (k + 1)

/-- The most bytes an instruction has (30_encoding.md R118). -/
def maxLength : Nat := 15

/-- The bytes decoding sees. -/
def fetchWindow (s : State) : List Byte := fetchBytes s maxLength 0

/-- The refusal of a decoding stop. -/
def decodeRefusal : DecodeStop → Refusal
  | .lockPrefix => .lockPrefix
  | .repPrefix => .repPrefix
  | .notInScope => .notInScope
  | .truncated => .instructionTooLong

/-- Bytes that end before the instruction does: all 15 used is an instruction too long (#GP(0) from the Intel386 on,
R118), fewer is a fetch beyond the CS limit (R453). DESIGN CHOICE, log entry 25: both come before any #PF on the bytes,
the oracle is not asked; the spec gives no order between R118's #GP(0) and the fetch #PF of R453. DESIGN CHOICE, log
entries 19 and 25: 15 prefix bytes with F0h, F2h or F3h among them are an instruction too long too, not refused as LOCK
or REP (R98, R99, no order given); and the CS limit, where it ends the bytes before the fifteenth, is reported before
R118. -/
def fetchShort (s : State) : Host.Outcome (Instr × Nat) Exception Refusal :=
  if (fetchWindow s).length < maxLength then .fault (.gp (limitCode s.mode))
  else if s.cfg.procGen.has32 then .fault (.gp (some 0))
  else .refused .instructionTooLong

/-- Fetch and decode: the instruction at CS:EIP and its length, or the fault or refusal that ends the step (R119, R453).
DESIGN CHOICE, log entry 25: bytes that decoding refuses (LOCK, REP, not in scope) are refused without asking the
page-fault oracle about them, since R453 asks it for an instruction's L bytes and no L is defined there. -/
def fetch (s : State) : Host.Outcome (Instr × Nat) Exception Refusal :=
  match decode (codeSize s) (fetchWindow s) with
  | .ok (i, rest) =>
    let len := (fetchWindow s).length - rest.length
    if s.mode = .realAddress then .next (i, len)
    else
      match s.pageFault ((codeLoc s).lin s 0) len .fetch with
      | some e => .fault (.pf e.code e.faultLin)
      | none => .next (i, len)
  | .error .truncated => fetchShort s
  | .error e => .refused (decodeRefusal e)

/-- `EIP + L`, modulo 2^32 or 2^16 by CS.D (D31). -/
def advanceEip (s : State) (len : Nat) : State :=
  s.withEip (wrapOffset (eipWrap s) (s.eip + BitVec.ofNat 32 len))

/-- The state a meaning starts from: EIP past the instruction, and a draw taken for the bytes fetched (log entries 5, 35). -/
def afterFetch (s : State) (len : Nat) : State := (advanceEip s len).spend 1

/-- Fetch, then execute. A meaning sees EIP already past the instruction: none reads it, SYSENTER and SYSEXIT overwrite it
(log entry 35). -/
def fetchExecute (s : State) : Result :=
  match fetch s with
  | .next (i, len) => exec i (afterFetch s len)
  | .fault e => raise e
  | .refused r => .refused r

end Sys2Proof.Machine
end

