-- ==== Sys2Proof/Machine/Step.lean ====
section
/-! DEFINITION. One step: take a pending event at the boundary, or fetch, decode and execute one instruction
(00_scope.md R19, 60_exceptions.md R462). And the host's way to place one instruction where the next step
fetches it. -/

namespace Sys2Proof.Machine

/-- The step relation of R462. -/
def step (s : State) : Host.Outcome State Fault Refusal :=
  match recognized (nextInput s) s with
  | some k => .fault (.interrupt k)
  | none => fetchExecute (passBoundary s)

/-- The instruction of a table word, its 15 bytes stored at CS:EIP, and nothing pending at the coming boundary (log entry
27). -/
def State.withFetchWord (s : State) (nbits w : Nat) : State :=
  (s.storeBytes (codeLoc s) (tableBytes nbits w)).withInputs []

end Sys2Proof.Machine
end

