-- ==== Sys2Proof/Safety.lean ====
section
/-! DEFINITION. What counts as a proper launch state and a proper running state, in the terms claims use
(70_reset_and_hazards.md R481). -/

namespace Sys2Proof.Machine

/-- R64: in real-address and virtual-8086 mode a segment's base is SEL * 16 and its byte limit FFFFh. -/
def SegReg.real (r : SegReg) : Prop := r.base.toNat = r.sel.toNat * 16 ∧ r.byteLimit = 0xFFFF

/-- All six segments have the real-address shape. -/
def State.realSegments (s : State) : Prop :=
  s.cs.real ∧ s.ds.real ∧ s.es.real ∧ s.fs.real ∧ s.gs.real ∧ s.ss.real

/-- R470: ProcGen and the CPUID constants are consistent. -/
def configConsistent (c : Config) : Prop :=
  (c.procGen = .pentiumII ↔ fastSystemCallPresent c = true) ∧
  (c.procGen = .pentiumPro → c.cpuidSep = true ∧ c.cpuidFamily = 6 ∧ c.cpuidModel = 1) ∧
  (c.procGen ≠ .pentiumPro → c.procGen ≠ .pentiumII → c.cpuidSep = false)

/-- A well-formed launch state (R481), with no null SS or CS in protected mode (20_memory.md R70, 93 U27). The reserved
EFLAGS bits of R481's first line are constants of the model.
DESIGN CHOICE (log entry 30): the last two conditions stand in none of R481, U27 and U33. EIP below 2^16 while CS.D is 0
(R27 keeps it so from the first advance on) and the canonical form of memory are what the model asks of its own. -/
def State.launch (s : State) : Prop :=
  (s.flags.vm = true → s.pe = true) ∧
  (s.mode = .virtual8086 → s.cpl = 3#2) ∧
  s.intShadow = false ∧
  configConsistent s.cfg ∧
  (s.mode ≠ .protectedMode → s.realSegments) ∧
  (s.mode = .protectedMode → nullSelector s.ss.sel = false ∧ nullSelector s.cs.sel = false) ∧
  (s.cs.d = false → s.eip.toNat < 2 ^ 16) ∧
  Mem.wf s.mem

/-- What every step keeps: canonical memory, legal modes, real-address segments outside protected mode, EIP inside a 16-bit
code segment, and IntShadow only while IF is 1. -/
def State.inv (s : State) : Prop :=
  Mem.wf s.mem ∧
  (s.flags.vm = true → s.pe = true) ∧
  (s.mode = .virtual8086 → s.cpl = 3#2) ∧
  (s.mode ≠ .protectedMode → s.realSegments) ∧
  (s.cs.d = false → s.eip.toNat < 2 ^ 16) ∧
  (s.intShadow = true → s.flags.ifl = true)

/-- Steps from a state: `k` steps that all answered a next state lead to `t`. -/
def reaches : Nat → State → State → Prop
  | 0, s, t => t = s
  | k + 1, s, t => ∃ u, step s = .next u ∧ reaches k u t

end Sys2Proof.Machine
end

