-- ==== Sys2Proof/Reference.lean ====
section
/-! DEFINITION. The spec's own words for what instructions do, said a second time and independently of the meanings, for
the statements: the source's loops, bit-by-bit results, the access table of 20_memory.md R77, and frames. -/

namespace Sys2Proof.Machine.Ref

/-! ## Accesses -/

/-- Every condition of 20_memory.md R68 that must hold for an access to raise nothing. -/
def Accessible (s : State) (l : Loc) (n : Nat) (kind : AccessKind) : Prop :=
  (s.mode = .protectedMode → l.seg ≠ .ss → l.seg ≠ .cs → 4 ≤ (s.seg l.seg).sel.toNat) ∧
  (s.mode = .protectedMode → kind ≠ .read →
    (s.seg l.seg).typ.getLsbD 3 = false ∧ (s.seg l.seg).typ.getLsbD 1 = true) ∧
  (if s.mode = .protectedMode ∧ (s.seg l.seg).expandDown = true then
      Config.expandDownOutside (s.seg l.seg).byteLimit l.off.toNat n = false
    else l.off.toNat + n ≤ (s.seg l.seg).byteLimit + 1) ∧
  (s.mode ≠ .realAddress → s.cr0.getLsbD 18 = true → s.flags.ac = true → s.cpl = 3#2 →
    (n = 2 → 2 ∣ (l.lin s 0).toNat) ∧ (n = 4 → 4 ∣ (l.lin s 0).toNat) ∧ (n = 6 → (l.lin s 0).toNat % 4 = 2)) ∧
  (s.mode ≠ .realAddress →
    ∀ e ∈ s.pageFaults, ¬ (e.lin = l.lin s 0 ∧ e.n = n ∧ e.kind = kind ∧ e.cpl = s.cpl))

/-- An `r/m` operand raises nothing: a register, or memory that is accessible. -/
def RmAccessible (s : State) (rm : RM) (n : Nat) (kind : AccessKind) : Prop :=
  match rm with
  | .reg _ => True
  | .mem m => Accessible s (memLoc m s) n kind

/-- A 32-bit operand needs 32-bit registers (92_eei_decisions.md D3). -/
def Available (s : State) (w : Width) : Prop := w = .w32 → s.cfg.procGen.has32 = true

/-! ## Frames -/

/-- Bit `j` of `GPR32[k]` belongs to `GPR8[n]`, `GPR16[n]` or `GPR32[n]` (10_state.md R21 to R23). -/
def inReg (w : Width) (n k : RegNum) (j : Nat) : Prop :=
  match w with
  | .w8 => (n.toNat < 4 ∧ k = n ∧ j < 8) ∨ (4 ≤ n.toNat ∧ k.toNat + 4 = n.toNat ∧ 8 ≤ j ∧ j < 16)
  | .w16 => k = n ∧ j < 16
  | .w32 => k = n ∧ j < 32

/-- Every register bit outside `GPR_w[n]` is unchanged. -/
def regsKeptOutside (s t : State) (w : Width) (n : RegNum) : Prop :=
  ∀ (k : RegNum) (j : Nat), ¬ inReg w n k j → (t.reg32 k).getLsbD j = (s.reg32 k).getLsbD j

/-- Every general register is unchanged. -/
def regsKept (s t : State) : Prop := ∀ k : RegNum, t.reg32 k = s.reg32 k

/-- Every byte of memory is unchanged: what was held still is, what nothing had written still is not. -/
def memKept (s t : State) : Prop := ∀ a : Word32, t.heldAt a = s.heldAt a

/-- Every byte of memory outside the `n` bytes at a location is unchanged. -/
def memKeptOutside (s t : State) (l : Loc) (n : Nat) : Prop :=
  ∀ a : Word32, (∀ k, k < n → a ≠ l.lin s k) → t.heldAt a = s.heldAt a

/-- The operand at a location reads as `v`, whatever draw the read takes: memory holds it. -/
def readsAs (t : State) (w : Width) (l : Loc) (v : BitVec w.bits) : Prop := ∀ n, (t.withDraws n).readLoc w l = v

/-- The flags that are no status flag are unchanged. -/
def controlFlagsKept (f g : Eflags) : Prop :=
  g.tf = f.tf ∧ g.ifl = f.ifl ∧ g.df = f.df ∧ g.iopl = f.iopl ∧ g.nt = f.nt ∧ g.rf = f.rf ∧ g.vm = f.vm ∧
    g.ac = f.ac ∧ g.vif = f.vif ∧ g.vip = f.vip ∧ g.idf = f.idf

/-- DS, ES, FS, GS, the descriptor-table registers, LDTR, TR, CR0, the MSRs, the processor's constants and the inputs to
come are unchanged. -/
def systemKept (s t : State) : Prop :=
  t.cfg = s.cfg ∧ t.ds = s.ds ∧ t.es = s.es ∧ t.fs = s.fs ∧ t.gs = s.gs ∧ t.gdtr = s.gdtr ∧ t.idtr = s.idtr ∧
    t.ldtr = s.ldtr ∧ t.tr = s.tr ∧ t.cr0 = s.cr0 ∧ t.sysenterCs = s.sysenterCs ∧
    t.sysenterEsp = s.sysenterEsp ∧ t.sysenterEip = s.sysenterEip ∧ t.pageFaults = s.pageFaults ∧
    t.inputs = s.inputs

/-- What every instruction but SYSENTER and SYSEXIT leaves too: CS, SS, CPL and EIP, which a step has already advanced. -/
def ringKept (s t : State) : Prop := t.cs = s.cs ∧ t.ss = s.ss ∧ t.cpl = s.cpl ∧ t.eip = s.eip

/-- An ordinary instruction completes: no system state changes and IntShadow is clear (10_state.md R55). -/
def completes (s t : State) : Prop := systemKept s t ∧ ringKept s t ∧ t.intShadow = false

/-- An `r/m` destination holds `v`, and no other register bit or memory byte has changed. -/
def dstHolds (s t : State) (w : Width) (dst : RM) (v : BitVec w.bits) : Prop :=
  match dst with
  | .reg n => t.readReg w n = v ∧ regsKeptOutside s t w n ∧ memKept s t
  | .mem m => readsAs t w (memLoc m s) v ∧ regsKept s t ∧ memKeptOutside s t (memLoc m s) w.bytes

/-! ## Flags of a result -/

/-- Bits 7:0 of a value hold an even number of 1s (10_state.md R36). -/
def evenParity {w : Nat} (v : BitVec w) : Prop := ((List.range 8).countP fun i => v.getLsbD i) % 2 = 0

/-- SF, ZF and PF describe `r` (R36). -/
def resultFlags {w : Nat} (g : Eflags) (r : BitVec w) : Prop :=
  (g.sf = true ↔ r.getLsbD (w - 1) = true) ∧ (g.zf = true ↔ r.toNat = 0) ∧ (g.pf = true ↔ evenParity r)

/-! ## Subtraction (42_sbb.md R191, R192) -/

/-- `r` is `(a - (b + cin)) mod 2^w`. -/
def isDifference {w : Nat} (a b : BitVec w) (cin : Bool) (r : BitVec w) : Prop :=
  (r.toNat : Int) = ((a.toNat : Int) - (b.toNat + cin.toNat)) % (2 : Int) ^ w

/-- The exact signed difference lies outside the signed range of the width. -/
def signedBorrow {w : Nat} (a b : BitVec w) (cin : Bool) : Prop :=
  a.toInt - b.toInt - cin.toNat < -(2 : Int) ^ (w - 1) ∨ (2 : Int) ^ (w - 1) - 1 < a.toInt - b.toInt - cin.toNat

/-- The six flags of R192, the difference being `r`. -/
def differenceFlags {w : Nat} (g : Eflags) (a b : BitVec w) (cin : Bool) (r : BitVec w) : Prop :=
  (g.cf = true ↔ a.toNat < b.toNat + cin.toNat) ∧
  (g.ofl = true ↔ signedBorrow a b cin) ∧
  resultFlags g r ∧
  (g.af = true ↔ a.toNat % 16 < b.toNat % 16 + cin.toNat)

/-- The source operand of a subtraction. -/
inductive Src (w : Width) where
  | imm (v : BitVec w.bits)
  | rm (r : RM)

/-- The source operand's value. -/
def Src.value {w : Width} (s : State) : Src w → BitVec w.bits
  | .imm v => v
  | .rm r => readRm s w r

/-- The draws reading the source operand takes. -/
def Src.draws {w : Width} : Src w → Nat
  | .imm _ => 0
  | .rm r => rmDraws r

/-- The source operand raises nothing. -/
def Src.accessible {w : Width} (s : State) : Src w → Prop
  | .imm _ => True
  | .rm r => RmAccessible s r w.bytes .read

/-- A row of SBB (`carry`) or SUB: its width, destination and source. -/
structure SubRow where
  carry : Bool
  w : Width
  dst : RM
  src : Src w

/-- The twenty-eight rows of SBB and SUB (42_sbb.md R194 to R207, 49_sub_sysenter_sysexit.md R388 to R401). -/
def subRow : Instr → Option SubRow
  | .sbbAlImm8 imm => some ⟨true, .w8, .reg 0#3, .imm imm⟩
  | .sbbAxImm16 imm => some ⟨true, .w16, .reg 0#3, .imm imm⟩
  | .sbbEaxImm32 imm => some ⟨true, .w32, .reg 0#3, .imm imm⟩
  | .sbbRm8Imm8 dst imm => some ⟨true, .w8, dst, .imm imm⟩
  | .sbbRm16Imm16 dst imm => some ⟨true, .w16, dst, .imm imm⟩
  | .sbbRm32Imm32 dst imm => some ⟨true, .w32, dst, .imm imm⟩
  | .sbbRm16Imm8 dst imm => some ⟨true, .w16, dst, .imm (imm.signExtend 16)⟩
  | .sbbRm32Imm8 dst imm => some ⟨true, .w32, dst, .imm (imm.signExtend 32)⟩
  | .sbbRm8R8 dst src => some ⟨true, .w8, dst, .rm (.reg src)⟩
  | .sbbRm16R16 dst src => some ⟨true, .w16, dst, .rm (.reg src)⟩
  | .sbbRm32R32 dst src => some ⟨true, .w32, dst, .rm (.reg src)⟩
  | .sbbR8Rm8 dst src => some ⟨true, .w8, .reg dst, .rm src⟩
  | .sbbR16Rm16 dst src => some ⟨true, .w16, .reg dst, .rm src⟩
  | .sbbR32Rm32 dst src => some ⟨true, .w32, .reg dst, .rm src⟩
  | .subAlImm8 imm => some ⟨false, .w8, .reg 0#3, .imm imm⟩
  | .subAxImm16 imm => some ⟨false, .w16, .reg 0#3, .imm imm⟩
  | .subEaxImm32 imm => some ⟨false, .w32, .reg 0#3, .imm imm⟩
  | .subRm8Imm8 dst imm => some ⟨false, .w8, dst, .imm imm⟩
  | .subRm16Imm16 dst imm => some ⟨false, .w16, dst, .imm imm⟩
  | .subRm32Imm32 dst imm => some ⟨false, .w32, dst, .imm imm⟩
  | .subRm16Imm8 dst imm => some ⟨false, .w16, dst, .imm (imm.signExtend 16)⟩
  | .subRm32Imm8 dst imm => some ⟨false, .w32, dst, .imm (imm.signExtend 32)⟩
  | .subRm8R8 dst src => some ⟨false, .w8, dst, .rm (.reg src)⟩
  | .subRm16R16 dst src => some ⟨false, .w16, dst, .rm (.reg src)⟩
  | .subRm32R32 dst src => some ⟨false, .w32, dst, .rm (.reg src)⟩
  | .subR8Rm8 dst src => some ⟨false, .w8, .reg dst, .rm src⟩
  | .subR16Rm16 dst src => some ⟨false, .w16, .reg dst, .rm src⟩
  | .subR32Rm32 dst src => some ⟨false, .w32, .reg dst, .rm src⟩
  | _ => none

/-! ## Shifts (41_shift.md) -/

/-- The count operand of a shift or double shift. -/
inductive Count where
  | one
  | cl
  | imm (b : Byte)

/-- The raw count (R141). -/
def Count.raw (s : State) : Count → Nat
  | .one => 1
  | .cl => (s.readReg .w8 1#3).toNat
  | .imm b => b.toNat

/-- The masked count of a shift (R142): modulo 32, but whole on the i8086. -/
def shiftCount (s : State) (c : Count) : Nat :=
  match s.cfg.procGen with
  | .i8086 => c.raw s
  | .i286 => c.raw s % 32
  | .i386 => c.raw s % 32
  | .i486 => c.raw s % 32
  | .pentium => c.raw s % 32
  | .pentiumPro => c.raw s % 32
  | .pentiumII => c.raw s % 32

/-- A row of SAL, SAR, SHL or SHR. -/
structure ShiftRow where
  op : ShiftOp
  w : Width
  dst : RM
  count : Count

/-- The thirty-six rows (R150 to R185). -/
def shiftRow : Instr → Option ShiftRow
  | .salRm8One dst => some ⟨.shl, .w8, dst, .one⟩
  | .salRm8Cl dst => some ⟨.shl, .w8, dst, .cl⟩
  | .salRm8Imm8 dst imm => some ⟨.shl, .w8, dst, .imm imm⟩
  | .salRm16One dst => some ⟨.shl, .w16, dst, .one⟩
  | .salRm16Cl dst => some ⟨.shl, .w16, dst, .cl⟩
  | .salRm16Imm8 dst imm => some ⟨.shl, .w16, dst, .imm imm⟩
  | .salRm32One dst => some ⟨.shl, .w32, dst, .one⟩
  | .salRm32Cl dst => some ⟨.shl, .w32, dst, .cl⟩
  | .salRm32Imm8 dst imm => some ⟨.shl, .w32, dst, .imm imm⟩
  | .sarRm8One dst => some ⟨.sar, .w8, dst, .one⟩
  | .sarRm8Cl dst => some ⟨.sar, .w8, dst, .cl⟩
  | .sarRm8Imm8 dst imm => some ⟨.sar, .w8, dst, .imm imm⟩
  | .sarRm16One dst => some ⟨.sar, .w16, dst, .one⟩
  | .sarRm16Cl dst => some ⟨.sar, .w16, dst, .cl⟩
  | .sarRm16Imm8 dst imm => some ⟨.sar, .w16, dst, .imm imm⟩
  | .sarRm32One dst => some ⟨.sar, .w32, dst, .one⟩
  | .sarRm32Cl dst => some ⟨.sar, .w32, dst, .cl⟩
  | .sarRm32Imm8 dst imm => some ⟨.sar, .w32, dst, .imm imm⟩
  | .shlRm8One dst => some ⟨.shl, .w8, dst, .one⟩
  | .shlRm8Cl dst => some ⟨.shl, .w8, dst, .cl⟩
  | .shlRm8Imm8 dst imm => some ⟨.shl, .w8, dst, .imm imm⟩
  | .shlRm16One dst => some ⟨.shl, .w16, dst, .one⟩
  | .shlRm16Cl dst => some ⟨.shl, .w16, dst, .cl⟩
  | .shlRm16Imm8 dst imm => some ⟨.shl, .w16, dst, .imm imm⟩
  | .shlRm32One dst => some ⟨.shl, .w32, dst, .one⟩
  | .shlRm32Cl dst => some ⟨.shl, .w32, dst, .cl⟩
  | .shlRm32Imm8 dst imm => some ⟨.shl, .w32, dst, .imm imm⟩
  | .shrRm8One dst => some ⟨.shr, .w8, dst, .one⟩
  | .shrRm8Cl dst => some ⟨.shr, .w8, dst, .cl⟩
  | .shrRm8Imm8 dst imm => some ⟨.shr, .w8, dst, .imm imm⟩
  | .shrRm16One dst => some ⟨.shr, .w16, dst, .one⟩
  | .shrRm16Cl dst => some ⟨.shr, .w16, dst, .cl⟩
  | .shrRm16Imm8 dst imm => some ⟨.shr, .w16, dst, .imm imm⟩
  | .shrRm32One dst => some ⟨.shr, .w32, dst, .one⟩
  | .shrRm32Cl dst => some ⟨.shr, .w32, dst, .cl⟩
  | .shrRm32Imm8 dst imm => some ⟨.shr, .w32, dst, .imm imm⟩
  | _ => none

/-- The loop bodies of R143 to R145, in the source's arithmetic: `DEST * 2`, the signed `DEST / 2` rounding toward
negative infinity, the unsigned `DEST / 2`; with the bit that goes to CF. -/
def shiftBody {w : Nat} (op : ShiftOp) (d : BitVec w) : BitVec w × Bool :=
  match op with
  | .shl => (BitVec.ofNat w (d.toNat * 2), d.getLsbD (w - 1))
  | .sar => (BitVec.ofInt w (d.toInt / 2), d.getLsbD 0)
  | .shr => (BitVec.ofNat w (d.toNat / 2), d.getLsbD 0)

/-- The loop: `c` times the body; the destination and the last CF. -/
def shiftLoop {w : Nat} (op : ShiftOp) : Nat → BitVec w × Bool → BitVec w × Bool
  | 0, p => p
  | c + 1, p => shiftLoop op c (shiftBody op p.1)

/-- CF is defined: always for SAR, below the width for SHL and SHR (R146). -/
def carryDefined (op : ShiftOp) (w c : Nat) : Prop := op = .sar ∨ c < w

/-- OF after a 1-bit shift of `d` (R147): for SHL whether its top two bits differ, for SAR 0, for SHR its top bit. -/
def overflowOne {w : Nat} (op : ShiftOp) (d : BitVec w) : Bool :=
  match op with
  | .shl => d.getLsbD (w - 1) != d.getLsbD (w - 2)
  | .sar => false
  | .shr => d.getLsbD (w - 1)

/-! ## Double shifts (46_shld_shrd.md) -/

/-- A row of SHLD or SHRD. -/
structure DoubleShiftRow where
  op : DoubleShiftOp
  w : Width
  dst : RM
  src : RegNum
  count : Count

/-- The eight rows (R302 to R305, R312 to R315). -/
def dshiftRow : Instr → Option DoubleShiftRow
  | .shldRm16R16Imm8 dst src imm => some ⟨.shld, .w16, dst, src, .imm imm⟩
  | .shldRm16R16Cl dst src => some ⟨.shld, .w16, dst, src, .cl⟩
  | .shldRm32R32Imm8 dst src imm => some ⟨.shld, .w32, dst, src, .imm imm⟩
  | .shldRm32R32Cl dst src => some ⟨.shld, .w32, dst, src, .cl⟩
  | .shrdRm16R16Imm8 dst src imm => some ⟨.shrd, .w16, dst, src, .imm imm⟩
  | .shrdRm16R16Cl dst src => some ⟨.shrd, .w16, dst, src, .cl⟩
  | .shrdRm32R32Imm8 dst src imm => some ⟨.shrd, .w32, dst, src, .imm imm⟩
  | .shrdRm32R32Cl dst src => some ⟨.shrd, .w32, dst, src, .cl⟩
  | _ => none

/-- Bit `i` of the result, as the source's loops assign it (R297, R298). -/
def dshiftBit {w : Nat} (op : DoubleShiftOp) (d src : BitVec w) (c i : Nat) : Bool :=
  match op with
  | .shld => if c ≤ i then d.getLsbD (i - c) else src.getLsbD (i + w - c)
  | .shrd => if i + c < w then d.getLsbD (i + c) else src.getLsbD (i + c - w)

/-- The last bit shifted out (R297, R298). -/
def dshiftOut {w : Nat} (op : DoubleShiftOp) (d : BitVec w) (c : Nat) : Bool :=
  match op with
  | .shld => d.getLsbD (w - c)
  | .shrd => d.getLsbD (c - 1)

/-! ## String forms -/

/-- The rows of SCAS (43_scas.md R219 to R224): width and address size. -/
def scasRow : Instr → Option (Width × Size)
  | .scasM8 asz => some (.w8, asz)
  | .scasM16 asz => some (.w16, asz)
  | .scasM32 asz => some (.w32, asz)
  | .scasb asz => some (.w8, asz)
  | .scasw asz => some (.w16, asz)
  | .scasd asz => some (.w32, asz)
  | _ => none

/-- The rows of STOS (48_stc_std_sti_stos_str.md R366 to R371). -/
def stosRow : Instr → Option (Width × Size)
  | .stosM8 asz => some (.w8, asz)
  | .stosM16 asz => some (.w16, asz)
  | .stosM32 asz => some (.w32, asz)
  | .stosb asz => some (.w8, asz)
  | .stosw asz => some (.w16, asz)
  | .stosd asz => some (.w32, asz)
  | _ => none

/-- EDI after the step (43_scas.md R217): modulo `2^AddressSize`, bits 31:16 kept with AddressSize 16. -/
def ediAfter (asz : Size) (n : Nat) (df : Bool) (edi : Nat) : Nat :=
  match asz with
  | .s16 => edi / 65536 * 65536 + (edi % 65536 + (if df then 65536 - n else n)) % 65536
  | .s32 => (edi + (if df then 4294967296 - n else n)) % 4294967296

/-- ES:(E)DI (20_memory.md R89). -/
def stringOperand (s : State) (asz : Size) : Loc :=
  match asz with
  | .s16 => { seg := .es, asz := .s16, off := BitVec.ofNat 32 ((s.reg32 7#3).toNat % 65536) }
  | .s32 => { seg := .es, asz := .s32, off := s.reg32 7#3 }

/-- Only EDI changes, to its stepped value. -/
def ediStepped (s t : State) (w : Width) (asz : Size) : Prop :=
  (t.reg32 7#3).toNat = ediAfter asz w.bytes s.flags.df (s.reg32 7#3).toNat ∧
    ∀ k : RegNum, k ≠ 7#3 → t.reg32 k = s.reg32 k

/-! ## SETcc -/

/-- The conditions as the table of 44_setcc.md R237 writes them. -/
def condition (cc : Nat) (f : Eflags) : Prop :=
  match cc with
  | 0x0 => f.ofl = true
  | 0x1 => f.ofl = false
  | 0x2 => f.cf = true
  | 0x3 => f.cf = false
  | 0x4 => f.zf = true
  | 0x5 => f.zf = false
  | 0x6 => f.cf = true ∨ f.zf = true
  | 0x7 => f.cf = false ∧ f.zf = false
  | 0x8 => f.sf = true
  | 0x9 => f.sf = false
  | 0xA => f.pf = true
  | 0xB => f.pf = false
  | 0xC => f.sf ≠ f.ofl
  | 0xD => f.sf = f.ofl
  | 0xE => f.zf = true ∨ f.sf ≠ f.ofl
  | _ => f.zf = false ∧ f.sf = f.ofl

/-- The thirty rows of SETcc (R240 to R269): `cc` and the destination. -/
def setccRow : Instr → Option (Nat × RM)
  | .seta dst => some (0x7, dst)
  | .setae dst => some (0x3, dst)
  | .setb dst => some (0x2, dst)
  | .setbe dst => some (0x6, dst)
  | .setc dst => some (0x2, dst)
  | .sete dst => some (0x4, dst)
  | .setg dst => some (0xF, dst)
  | .setge dst => some (0xD, dst)
  | .setl dst => some (0xC, dst)
  | .setle dst => some (0xE, dst)
  | .setna dst => some (0x6, dst)
  | .setnae dst => some (0x2, dst)
  | .setnb dst => some (0x3, dst)
  | .setnbe dst => some (0x7, dst)
  | .setnc dst => some (0x3, dst)
  | .setne dst => some (0x5, dst)
  | .setng dst => some (0xE, dst)
  | .setnge dst => some (0xC, dst)
  | .setnl dst => some (0xD, dst)
  | .setnle dst => some (0xF, dst)
  | .setno dst => some (0x1, dst)
  | .setnp dst => some (0xB, dst)
  | .setns dst => some (0x9, dst)
  | .setnz dst => some (0x5, dst)
  | .seto dst => some (0x0, dst)
  | .setp dst => some (0xA, dst)
  | .setpe dst => some (0xA, dst)
  | .setpo dst => some (0xB, dst)
  | .sets dst => some (0x8, dst)
  | .setz dst => some (0x4, dst)
  | _ => none

/-! ## SGDT and SIDT -/

/-- Byte `k` of the six stored (45_sgdt_sidt.md R283, R284). -/
def tableByte (osz : Size) (g : ProcGen) (t : TableReg) (k : Nat) : Nat :=
  match k with
  | 0 => t.limit.toNat % 256
  | 1 => t.limit.toNat / 256
  | 2 => t.base.toNat % 256
  | 3 => t.base.toNat / 256 % 256
  | 4 => t.base.toNat / 65536 % 256
  | _ =>
    match osz with
    | .s16 => if g = .i286 then 255 else 0
    | .s32 => t.base.toNat / 16777216

/-! ## The data access of a row (20_memory.md R77) -/

/-- One data access: location, bytes and kind. -/
structure Access where
  loc : Loc
  n : Nat
  kind : AccessKind

/-- The access of an `r/m` operand. -/
def rmAccess (s : State) (rm : RM) (n : Nat) (kind : AccessKind) : Option Access :=
  match rm with
  | .reg _ => none
  | .mem m => some ⟨memLoc m s, n, kind⟩

/-- The data access each instruction makes in a state, if any (R77). -/
def dataAccess (s : State) : Instr → Option Access
  | .sahf => none
  | .salRm8One dst => rmAccess s dst 1 .readwrite
  | .salRm8Cl dst => rmAccess s dst 1 .readwrite
  | .salRm8Imm8 dst _ => rmAccess s dst 1 .readwrite
  | .salRm16One dst => rmAccess s dst 2 .readwrite
  | .salRm16Cl dst => rmAccess s dst 2 .readwrite
  | .salRm16Imm8 dst _ => rmAccess s dst 2 .readwrite
  | .salRm32One dst => rmAccess s dst 4 .readwrite
  | .salRm32Cl dst => rmAccess s dst 4 .readwrite
  | .salRm32Imm8 dst _ => rmAccess s dst 4 .readwrite
  | .sarRm8One dst => rmAccess s dst 1 .readwrite
  | .sarRm8Cl dst => rmAccess s dst 1 .readwrite
  | .sarRm8Imm8 dst _ => rmAccess s dst 1 .readwrite
  | .sarRm16One dst => rmAccess s dst 2 .readwrite
  | .sarRm16Cl dst => rmAccess s dst 2 .readwrite
  | .sarRm16Imm8 dst _ => rmAccess s dst 2 .readwrite
  | .sarRm32One dst => rmAccess s dst 4 .readwrite
  | .sarRm32Cl dst => rmAccess s dst 4 .readwrite
  | .sarRm32Imm8 dst _ => rmAccess s dst 4 .readwrite
  | .shlRm8One dst => rmAccess s dst 1 .readwrite
  | .shlRm8Cl dst => rmAccess s dst 1 .readwrite
  | .shlRm8Imm8 dst _ => rmAccess s dst 1 .readwrite
  | .shlRm16One dst => rmAccess s dst 2 .readwrite
  | .shlRm16Cl dst => rmAccess s dst 2 .readwrite
  | .shlRm16Imm8 dst _ => rmAccess s dst 2 .readwrite
  | .shlRm32One dst => rmAccess s dst 4 .readwrite
  | .shlRm32Cl dst => rmAccess s dst 4 .readwrite
  | .shlRm32Imm8 dst _ => rmAccess s dst 4 .readwrite
  | .shrRm8One dst => rmAccess s dst 1 .readwrite
  | .shrRm8Cl dst => rmAccess s dst 1 .readwrite
  | .shrRm8Imm8 dst _ => rmAccess s dst 1 .readwrite
  | .shrRm16One dst => rmAccess s dst 2 .readwrite
  | .shrRm16Cl dst => rmAccess s dst 2 .readwrite
  | .shrRm16Imm8 dst _ => rmAccess s dst 2 .readwrite
  | .shrRm32One dst => rmAccess s dst 4 .readwrite
  | .shrRm32Cl dst => rmAccess s dst 4 .readwrite
  | .shrRm32Imm8 dst _ => rmAccess s dst 4 .readwrite
  | .sbbAlImm8 _ => none
  | .sbbAxImm16 _ => none
  | .sbbEaxImm32 _ => none
  | .sbbRm8Imm8 dst _ => rmAccess s dst 1 .readwrite
  | .sbbRm16Imm16 dst _ => rmAccess s dst 2 .readwrite
  | .sbbRm32Imm32 dst _ => rmAccess s dst 4 .readwrite
  | .sbbRm16Imm8 dst _ => rmAccess s dst 2 .readwrite
  | .sbbRm32Imm8 dst _ => rmAccess s dst 4 .readwrite
  | .sbbRm8R8 dst _ => rmAccess s dst 1 .readwrite
  | .sbbRm16R16 dst _ => rmAccess s dst 2 .readwrite
  | .sbbRm32R32 dst _ => rmAccess s dst 4 .readwrite
  | .sbbR8Rm8 _ src => rmAccess s src 1 .read
  | .sbbR16Rm16 _ src => rmAccess s src 2 .read
  | .sbbR32Rm32 _ src => rmAccess s src 4 .read
  | .scasM8 asz => some ⟨stringOperand s asz, 1, .read⟩
  | .scasM16 asz => some ⟨stringOperand s asz, 2, .read⟩
  | .scasM32 asz => some ⟨stringOperand s asz, 4, .read⟩
  | .scasb asz => some ⟨stringOperand s asz, 1, .read⟩
  | .scasw asz => some ⟨stringOperand s asz, 2, .read⟩
  | .scasd asz => some ⟨stringOperand s asz, 4, .read⟩
  | .seta dst => rmAccess s dst 1 .write
  | .setae dst => rmAccess s dst 1 .write
  | .setb dst => rmAccess s dst 1 .write
  | .setbe dst => rmAccess s dst 1 .write
  | .setc dst => rmAccess s dst 1 .write
  | .sete dst => rmAccess s dst 1 .write
  | .setg dst => rmAccess s dst 1 .write
  | .setge dst => rmAccess s dst 1 .write
  | .setl dst => rmAccess s dst 1 .write
  | .setle dst => rmAccess s dst 1 .write
  | .setna dst => rmAccess s dst 1 .write
  | .setnae dst => rmAccess s dst 1 .write
  | .setnb dst => rmAccess s dst 1 .write
  | .setnbe dst => rmAccess s dst 1 .write
  | .setnc dst => rmAccess s dst 1 .write
  | .setne dst => rmAccess s dst 1 .write
  | .setng dst => rmAccess s dst 1 .write
  | .setnge dst => rmAccess s dst 1 .write
  | .setnl dst => rmAccess s dst 1 .write
  | .setnle dst => rmAccess s dst 1 .write
  | .setno dst => rmAccess s dst 1 .write
  | .setnp dst => rmAccess s dst 1 .write
  | .setns dst => rmAccess s dst 1 .write
  | .setnz dst => rmAccess s dst 1 .write
  | .seto dst => rmAccess s dst 1 .write
  | .setp dst => rmAccess s dst 1 .write
  | .setpe dst => rmAccess s dst 1 .write
  | .setpo dst => rmAccess s dst 1 .write
  | .sets dst => rmAccess s dst 1 .write
  | .setz dst => rmAccess s dst 1 .write
  | .sgdt _ dst => rmAccess s dst 6 .write
  | .sidt _ dst => rmAccess s dst 6 .write
  | .shldRm16R16Imm8 dst _ _ => rmAccess s dst 2 .readwrite
  | .shldRm16R16Cl dst _ => rmAccess s dst 2 .readwrite
  | .shldRm32R32Imm8 dst _ _ => rmAccess s dst 4 .readwrite
  | .shldRm32R32Cl dst _ => rmAccess s dst 4 .readwrite
  | .shrdRm16R16Imm8 dst _ _ => rmAccess s dst 2 .readwrite
  | .shrdRm16R16Cl dst _ => rmAccess s dst 2 .readwrite
  | .shrdRm32R32Imm8 dst _ _ => rmAccess s dst 4 .readwrite
  | .shrdRm32R32Cl dst _ => rmAccess s dst 4 .readwrite
  | .sldtRm16 dst => rmAccess s dst 2 .write
  | .sldtRm32 dst => rmAccess s dst 2 .write
  | .smswRm16 dst => rmAccess s dst 2 .write
  | .smswR32M16 dst => rmAccess s dst 2 .write
  | .stc => none
  | .std => none
  | .sti => none
  | .stosM8 asz => some ⟨stringOperand s asz, 1, .write⟩
  | .stosM16 asz => some ⟨stringOperand s asz, 2, .write⟩
  | .stosM32 asz => some ⟨stringOperand s asz, 4, .write⟩
  | .stosb asz => some ⟨stringOperand s asz, 1, .write⟩
  | .stosw asz => some ⟨stringOperand s asz, 2, .write⟩
  | .stosd asz => some ⟨stringOperand s asz, 4, .write⟩
  | .strRm16 _ dst => rmAccess s dst 2 .write
  | .subAlImm8 _ => none
  | .subAxImm16 _ => none
  | .subEaxImm32 _ => none
  | .subRm8Imm8 dst _ => rmAccess s dst 1 .readwrite
  | .subRm16Imm16 dst _ => rmAccess s dst 2 .readwrite
  | .subRm32Imm32 dst _ => rmAccess s dst 4 .readwrite
  | .subRm16Imm8 dst _ => rmAccess s dst 2 .readwrite
  | .subRm32Imm8 dst _ => rmAccess s dst 4 .readwrite
  | .subRm8R8 dst _ => rmAccess s dst 1 .readwrite
  | .subRm16R16 dst _ => rmAccess s dst 2 .readwrite
  | .subRm32R32 dst _ => rmAccess s dst 4 .readwrite
  | .subR8Rm8 _ src => rmAccess s src 1 .read
  | .subR16Rm16 _ src => rmAccess s src 2 .read
  | .subR32Rm32 _ src => rmAccess s src 4 .read
  | .sysenter => none
  | .sysexit => none

/-- The rows with a 32-bit operand, refused where there are no 32-bit registers (92_eei_decisions.md D3). -/
def operand32 : Instr → Bool
  | .salRm32One _ => true
  | .salRm32Cl _ => true
  | .salRm32Imm8 _ _ => true
  | .sarRm32One _ => true
  | .sarRm32Cl _ => true
  | .sarRm32Imm8 _ _ => true
  | .shlRm32One _ => true
  | .shlRm32Cl _ => true
  | .shlRm32Imm8 _ _ => true
  | .shrRm32One _ => true
  | .shrRm32Cl _ => true
  | .shrRm32Imm8 _ _ => true
  | .sbbEaxImm32 _ => true
  | .sbbRm32Imm32 _ _ => true
  | .sbbRm32Imm8 _ _ => true
  | .sbbRm32R32 _ _ => true
  | .sbbR32Rm32 _ _ => true
  | .scasM32 _ => true
  | .scasd _ => true
  | .shldRm32R32Imm8 _ _ _ => true
  | .shldRm32R32Cl _ _ => true
  | .shrdRm32R32Imm8 _ _ _ => true
  | .shrdRm32R32Cl _ _ => true
  | .sldtRm32 _ => true
  | .stosM32 _ => true
  | .stosd _ => true
  | .subEaxImm32 _ => true
  | .subRm32Imm32 _ _ => true
  | .subRm32Imm8 _ _ => true
  | .subRm32R32 _ _ => true
  | .subR32Rm32 _ _ => true
  | _ => false

/-- The access whose checks can fault: SLDT and STR make theirs in protected mode only (47_sldt_smsw.md R329,
48_stc_std_sti_stos_str.md R377). -/
def checkedAccess (s : State) (i : Instr) : Option Access :=
  match i with
  | .sldtRm16 _ => if s.mode = .protectedMode then dataAccess s i else none
  | .sldtRm32 _ => if s.mode = .protectedMode then dataAccess s i else none
  | .strRm16 _ _ => if s.mode = .protectedMode then dataAccess s i else none
  | _ => dataAccess s i

/-- The decision table of 48_stc_std_sti_stos_str.md R356. -/
def stiMay (s : State) : Prop :=
  s.pe = false ∨ (s.pe = true ∧ s.flags.vm = false ∧ s.cpl.toNat ≤ s.flags.iopl.toNat) ∨
    (s.pe = true ∧ s.flags.vm = true ∧ s.flags.iopl = 3#2)

/-- The facility predicate of 60_exceptions.md R470. -/
def facility (c : Config) : Prop :=
  c.cpuidSep = true ∧ ¬ (c.cpuidFamily = 6 ∧ c.cpuidModel < 3 ∧ c.cpuidStepping < 3) ∧ c.procGen ≠ .pentiumPro

/-- The code of #GP and #SS from a memory check: none in real-address mode, else 0 (60_exceptions.md R448). -/
def memoryCode (s : State) : Option Nat := if s.mode = .realAddress then none else some 0

/-- The causes of #GP that are no memory check, all with code 0 (60_exceptions.md R443, R450). -/
def ownProtection (s : State) (i : Instr) : Prop :=
  i = .sti ∧ ¬ stiMay s ∨
    i = .sysenter ∧ facility s.cfg ∧ (s.pe = false ∨ s.sysenterCs = 0#16) ∨
    i = .sysexit ∧ facility s.cfg ∧ (s.mode ≠ .protectedMode ∨ s.sysenterCs = 0#16 ∨ s.cpl ≠ 0#2)

/-- The causes of #GP from the check of an access: the limit outside SS, and in protected mode a null DS, ES, FS or GS and a
write to a nonwritable segment (R443). -/
def accessProtection (s : State) (a : Access) : Prop :=
  a.loc.seg ≠ .ss ∧ outsideLimit s.mode (s.seg a.loc.seg) a.loc.off.toNat a.n = true ∨
    s.mode = .protectedMode ∧ a.loc.seg ≠ .ss ∧ a.loc.seg ≠ .cs ∧ (s.seg a.loc.seg).sel.toNat < 4 ∨
    s.mode = .protectedMode ∧ a.kind ≠ .read ∧
      ((s.seg a.loc.seg).typ.getLsbD 3 = true ∨ (s.seg a.loc.seg).typ.getLsbD 1 = false)

/-- The exceptions an instruction can raise, each with its causes and its code: 60_exceptions.md R443 to R448 and the table
of R450, by columns #UD, #GP, #SS, #PF, #AC. -/
def mayRaise (s : State) (i : Instr) (e : Exception) : Prop :=
  match e with
  | .ud =>
    match i with
    | .sgdt _ (.reg _) => True
    | .sidt _ (.reg _) => True
    | .sldtRm16 _ => s.mode ≠ .protectedMode
    | .sldtRm32 _ => s.mode ≠ .protectedMode
    | .strRm16 _ _ => s.mode ≠ .protectedMode
    | .sysenter => ¬ facility s.cfg
    | .sysexit => ¬ facility s.cfg
    | _ => False
  | .gp c =>
    c = some 0 ∧ ownProtection s i ∨ c = memoryCode s ∧ ∃ a, checkedAccess s i = some a ∧ accessProtection s a
  | .ss c =>
    c = memoryCode s ∧ ∃ a, checkedAccess s i = some a ∧ a.loc.seg = .ss ∧
      outsideLimit s.mode s.ss a.loc.off.toNat a.n = true
  | .pf code lin =>
    s.mode ≠ .realAddress ∧ ∃ a p, checkedAccess s i = some a ∧ s.pageFault (a.loc.lin s 0) a.n a.kind = some p ∧
      code = p.code ∧ lin = p.faultLin
  | .ac c =>
    c = 0 ∧ s.mode ≠ .realAddress ∧ s.cpl = 3#2 ∧ s.cr0.getLsbD 18 = true ∧ s.flags.ac = true ∧
      ∃ a, checkedAccess s i = some a ∧ a.n ≠ 1 ∧ unaligned (a.loc.lin s 0).toNat a.n = true

/-! ## System stores -/

/-- A 16-bit value is stored: in a 16-bit register or a word of memory, or, with OperandSize 32 and a register, in its low
half under a high half of which `high` holds. -/
def wordStored (s t : State) (osz : Size) (dst : RM) (v : Word16) (high : Word16 → Prop) : Prop :=
  match osz, dst with
  | .s32, .reg n => (∃ h, high h ∧ t.reg32 n = h ++ v) ∧ regsKeptOutside s t .w32 n ∧ memKept s t
  | _, dst => dstHolds s t .w16 dst v

/-! ## Undefined values (00_scope.md R18) -/

/-- The processors on which bits 31:16 after SLDT to a 32-bit register are undefined (47_sldt_smsw.md R328). -/
def sldtOpen : List ProcGen := [.i386, .i486, .pentium]

/-- How many draws an instruction takes where it completes (log entries 2 and 5): three by a shift and two, or seven past
the width, by a double shift, none for a masked count of 0; one by SUB, SBB or SCAS for the memory it reads; one by SLDT
and SMSW for a high half that is undefined. -/
def drawsTaken (s : State) (i : Instr) : Nat :=
  match shiftRow i, dshiftRow i with
  | some r, _ => if shiftCount s r.count = 0 then 0 else 3
  | none, some r =>
    let c := r.count.raw s % 32
    if c = 0 then 0 else if c < r.w.bits then 2 else 7
  | none, none =>
    if (subRow i).isSome ∨ (scasRow i).isSome then (if (dataAccess s i).isSome then 1 else 0)
    else
      match i with
      | .sldtRm32 (.reg _) => if s.cfg.procGen ∈ sldtOpen then 1 else 0
      | .smswR32M16 (.reg _) => 1
      | _ => 0

/-! ## The fast system call pair -/

/-- A flat 4 GB segment with the fixed attributes of 49_sub_sysenter_sysexit.md R410 and R425. -/
def flat (r : SegReg) (sel typ dpl : Nat) : Prop :=
  r.sel.toNat = sel ∧ r.base.toNat = 0 ∧ r.byteLimit = 0xFFFFFFFF ∧ r.g = true ∧ r.s = true ∧ r.typ.toNat = typ ∧
    r.d = true ∧ r.dpl.toNat = dpl ∧ r.p = true

/-! ## Encoding -/

/-- The segment override bytes (30_encoding.md R95). -/
def segBytes : List Byte := [0x26#8, 0x2E#8, 0x36#8, 0x3E#8, 0x64#8, 0x65#8]

/-- All prefix bytes (R95). -/
def prefixBytes : List Byte := segBytes ++ [0x66#8, 0x67#8, 0xF0#8, 0xF2#8, 0xF3#8]

/-- The first opcode bytes in scope, 0Fh aside (R112). -/
def oneByteOpcodes : List Byte :=
  [0x18#8, 0x19#8, 0x1A#8, 0x1B#8, 0x1C#8, 0x1D#8, 0x28#8, 0x29#8, 0x2A#8, 0x2B#8, 0x2C#8, 0x2D#8] ++
    [0x80#8, 0x81#8, 0x83#8, 0x9E#8, 0xAA#8, 0xAB#8, 0xAE#8, 0xAF#8] ++
    [0xC0#8, 0xC1#8, 0xD0#8, 0xD1#8, 0xD2#8, 0xD3#8, 0xF9#8, 0xFB#8, 0xFD#8]

/-- The second opcode bytes in scope (R113). -/
def twoByteOpcodes : List Byte :=
  [0x00#8, 0x01#8, 0x34#8, 0x35#8, 0x90#8, 0x91#8, 0x92#8, 0x93#8, 0x94#8, 0x95#8, 0x96#8, 0x97#8] ++
    [0x98#8, 0x99#8, 0x9A#8, 0x9B#8, 0x9C#8, 0x9D#8, 0x9E#8, 0x9F#8, 0xA4#8, 0xA5#8, 0xAC#8, 0xAD#8]

/-- The instructions with no operand at all. -/
def noOperand (i : Instr) : Prop :=
  i = .sahf ∨ i = .stc ∨ i = .std ∨ i = .sti ∨ i = .sysenter ∨ i = .sysexit

/-- A row of SCAS or STOS. -/
def stringRow (i : Instr) : Prop := (scasRow i).isSome = true ∨ (stosRow i).isSome = true

/-- A row with an 8-bit operand (R97). -/
def byteRow (i : Instr) : Prop :=
  (∃ r, shiftRow i = some r ∧ r.w = .w8) ∨ (∃ r, subRow i = some r ∧ r.w = .w8) ∨
    ∃ asz, scasRow i = some (.w8, asz) ∨ stosRow i = some (.w8, asz)

/-- A prefix byte that has nothing to act on in an instruction (R97, R99; 44_setcc.md R239; 20_memory.md R88): 66h where no
operand width depends on OperandSize, 67h and a segment override where there is no memory operand, a segment override
before SCAS or STOS. -/
def idlePrefix (i : Instr) (b : Byte) : Prop :=
  b = 0x66#8 ∧ (noOperand i ∨ (setccRow i).isSome = true ∨ byteRow i) ∨
    b = 0x67#8 ∧ (∀ s, dataAccess s i = none) ∨
    b ∈ segBytes ∧ ((∀ s, dataAccess s i = none) ∨ stringRow i)

/-- Opcode bytes outside the tables (30_encoding.md R112, R113, R117): a first or a second opcode byte not listed, or a
listed group with a digit not listed, the ModR/M byte included. -/
def outsideTables (bs : List Byte) : Prop :=
  (∃ op, bs = [op] ∧ op ∉ prefixBytes ∧ op ∉ oneByteOpcodes ∧ op ≠ 0x0F#8) ∨
    (∃ op, bs = [0x0F#8, op] ∧ op ∉ twoByteOpcodes) ∨
    (∃ op m, bs = [op, m] ∧ op ∈ [0x80#8, 0x81#8, 0x83#8] ∧ (regField m).toNat ∉ [3, 5]) ∨
    (∃ op m, bs = [op, m] ∧ op ∈ [0xC0#8, 0xC1#8, 0xD0#8, 0xD1#8, 0xD2#8, 0xD3#8] ∧ (regField m).toNat ∉ [4, 5, 7]) ∨
    (∃ m, bs = [0x0F#8, 0x00#8, m] ∧ (regField m).toNat ∉ [0, 1]) ∨
    (∃ m, bs = [0x0F#8, 0x01#8, m] ∧ (regField m).toNat ∉ [0, 1, 4])

/-- The bytes at CS:EIP begin with `bs`. -/
def codeAt (s : State) (bs : List Byte) : Prop :=
  ∀ k, (h : k < bs.length) → s.byteAt ((codeLoc s).lin s k) = bs[k]

/-- The first `n` bytes at CS:EIP lie inside the CS limit. -/
def codeInside (s : State) (n : Nat) : Prop := ∀ k, k < n → outsideLimit s.mode s.cs s.eip.toNat (k + 1) = false

/-- No event is taken at the coming boundary (60_exceptions.md R462). -/
def quiet (s : State) : Prop :=
  (nextInput s).nmi = false ∧ ((nextInput s).ext = true → s.flags.ifl = false ∨ s.intShadow = true)

/-! ## Effective addresses (30_encoding.md R101, R102) -/

/-- The sum of R102 before it is taken modulo 2^16. -/
def sum16 (s : State) : Addr16 → Int
  | .base b d =>
    (match b with
      | .bxSi => ((s.reg32 3#3).toNat % 65536 + (s.reg32 6#3).toNat % 65536 : Int)
      | .bxDi => (s.reg32 3#3).toNat % 65536 + (s.reg32 7#3).toNat % 65536
      | .bpSi => (s.reg32 5#3).toNat % 65536 + (s.reg32 6#3).toNat % 65536
      | .bpDi => (s.reg32 5#3).toNat % 65536 + (s.reg32 7#3).toNat % 65536
      | .si => (s.reg32 6#3).toNat % 65536
      | .di => (s.reg32 7#3).toNat % 65536
      | .bp => (s.reg32 5#3).toNat % 65536
      | .bx => (s.reg32 3#3).toNat % 65536) +
    (match d with
      | .none => 0
      | .d8 d => d.toInt
      | .d16 d => d.toNat)
  | .direct d => d.toNat

/-- The scaled index of R101, before it is taken modulo 2^32. -/
def indexTerm (s : State) (scale : BitVec 2) : Option RegNum → Int
  | none => 0
  | some n => (s.reg32 n).toNat * 2 ^ scale.toNat

/-- The sum of R101 before it is taken modulo 2^32. -/
def sum32 (s : State) (a : Addr32) : Int :=
  let disp (d : Disp32) : Int :=
    match d with
    | .none => 0
    | .d8 d => d.toInt
    | .d32 d => d.toNat
  match a with
  | .base b d => (s.reg32 b).toNat + disp d
  | .direct d => d.toNat
  | .sib scale index b d => (s.reg32 b).toNat + indexTerm s scale index + disp d
  | .sibNoBase scale index d => indexTerm s scale index + d.toNat

/-- The registers a form takes SS for: BP summed (R102), base EBP, or base ESP in a SIB (R101). -/
def stackBased : EffAddr → Prop
  | .a16 (.base b _) => b = .bpSi ∨ b = .bpDi ∨ b = .bp
  | .a16 (.direct _) => False
  | .a32 (.base b _) => b.toNat = 5
  | .a32 (.direct _) => False
  | .a32 (.sib _ _ b _) => b.toNat = 4 ∨ b.toNat = 5
  | .a32 (.sibNoBase _ _ _) => False

end Sys2Proof.Machine.Ref
end

