-- ==== Sys2Proof/Certificates/Slice0/Obligations.lean ====
section
/-! DEFINITION. The statements for the provers. Each docstring names the rules of spec/ the statement rests on; OBLIGATIONS.json
says the same. `exec` sees EIP already advanced: the advance is `StepRunsDecoded`'s. -/

open Sys2Proof Sys2Proof.Machine Sys2Proof.Machine.Ref

/-- For every default size, every well-formed instruction i of the 127 rows and every following bytes, decode of encode
i followed by them answers i in its canonical spelling (R109) and those bytes. (30_encoding.md R90 to R113;
30_encoding.md R119.) -/
def Obligations.DecodeEncode : Prop :=
  ∀ (dflt : Size) (i : Instr) (rest : List Byte), i.wf = true →
    decode dflt (encode dflt i ++ rest) = .ok (i.canon, rest)

/-- In 32-bit code these bytes, which the cited rules print, decode to the instructions and operands they name: SAHF, a
shift, SBB twice, SCASW, SETA, SGDT, SHLD, SHRD, SLDT, SMSW, STC, STD, STI, STOSB, STR, SUB, SYSENTER and SYSEXIT.
R150 names its bytes SAL and the decoder answers the alias SHL of the same bytes (R109 lets any be printed; the
choice is log entry 26). (40_sahf.md R130; 41_shift.md R150; 42_sbb.md R198, R203; 43_scas.md R223; 44_setcc.md
R240; 45_sgdt_sidt.md R281; 46_shld_shrd.md R304, R312; 47_sldt_smsw.md R326, R336; 48_stc_std_sti_stos_str.md R345,
R350, R355, R366, R375; 49_sub_sysenter_sysexit.md R398, R408, R423; 30_encoding.md R109.) -/
def Obligations.SpecWordsDecode : Prop :=
  decode .s32 [0x9E#8] = .ok (.sahf, []) ∧
  decode .s32 [0xD0#8, 0xE3#8] = .ok (.shlRm8One (.reg 3#3), []) ∧
  decode .s32 [0x66#8, 0x81#8, 0xDB#8, 0x34#8, 0x12#8] = .ok (.sbbRm16Imm16 (.reg 3#3) 0x1234#16, []) ∧
  decode .s32 [0x66#8, 0x19#8, 0xD3#8] = .ok (.sbbRm16R16 (.reg 3#3) 2#3, []) ∧
  decode .s32 [0x66#8, 0x67#8, 0xAF#8] = .ok (.scasw .s16, []) ∧
  decode .s32 [0x0F#8, 0x97#8, 0xC3#8] = .ok (.seta (.reg 3#3), []) ∧
  decode .s32 [0x0F#8, 0x01#8, 0x03#8] = .ok (.sgdt .s32 (.mem ⟨.a32 (.base 3#3 .none), none⟩), []) ∧
  decode .s32 [0x0F#8, 0xA4#8, 0xD3#8, 0x01#8] = .ok (.shldRm32R32Imm8 (.reg 3#3) 2#3 1#8, []) ∧
  decode .s32 [0x66#8, 0x0F#8, 0xAC#8, 0xD3#8, 0x04#8] = .ok (.shrdRm16R16Imm8 (.reg 3#3) 2#3 4#8, []) ∧
  decode .s32 [0x66#8, 0x0F#8, 0x00#8, 0xC3#8] = .ok (.sldtRm16 (.reg 3#3), []) ∧
  decode .s32 [0x66#8, 0x0F#8, 0x01#8, 0xE3#8] = .ok (.smswRm16 (.reg 3#3), []) ∧
  decode .s32 [0xF9#8] = .ok (.stc, []) ∧
  decode .s32 [0xFD#8] = .ok (.std, []) ∧
  decode .s32 [0xFB#8] = .ok (.sti, []) ∧
  decode .s32 [0xAA#8] = .ok (.stosb .s32, []) ∧
  decode .s32 [0x0F#8, 0x00#8, 0xCB#8] = .ok (.strRm16 .s32 (.reg 3#3), []) ∧
  decode .s32 [0x29#8, 0xD3#8] = .ok (.subRm32R32 (.reg 3#3) 2#3, []) ∧
  decode .s32 [0x0F#8, 0x34#8] = .ok (.sysenter, []) ∧
  decode .s32 [0x0F#8, 0x35#8] = .ok (.sysexit, [])

/-- For any run of prefix bytes before any byte that is none: with F0h among them decoding stops with lockPrefix;
without F0h and with F2h or F3h it stops with repPrefix; whatever follows. Where up to 14 prefix bytes and that byte
lie at CS:EIP inside the CS limit and no event is taken, the step is that refusal. That these are refused is the
decision of D14 and D15; that F0h is reported before F2h and F3h, and both before the opcode is looked at and with
no fetch fault of the bytes after it, is the model's choice, log entry 19. (30_encoding.md R98; 30_encoding.md R99;
30_encoding.md R119; 92_eei_decisions.md D14, D15.) -/
def Obligations.LockAndRepRefused : Prop :=
  ∀ (pre : List Byte) (op : Byte), (∀ b ∈ pre, b ∈ prefixBytes) → op ∉ prefixBytes →
    (∀ (dflt : Size) (rest : List Byte),
      (0xF0#8 ∈ pre → decode dflt (pre ++ op :: rest) = .error .lockPrefix) ∧
      (0xF0#8 ∉ pre → (0xF2#8 ∈ pre ∨ 0xF3#8 ∈ pre) → decode dflt (pre ++ op :: rest) = .error .repPrefix)) ∧
    ∀ s : State, quiet s →
      let u := passBoundary s
      pre.length ≤ 14 → codeAt u (pre ++ [op]) → codeInside u (pre.length + 1) →
      (0xF0#8 ∈ pre → step s = .refused .lockPrefix) ∧
      (0xF0#8 ∉ pre → (0xF2#8 ∈ pre ∨ 0xF3#8 ∈ pre) → step s = .refused .repPrefix)

/-- Before a well-formed instruction, any run of bytes with nothing to act on in it leaves what decoding answers: 66h
before SAHF, STC, STD, STI, SYSENTER, SYSEXIT, SETcc and every row with an 8-bit operand, SCASB and STOSB among
them; 67h and segment bytes before an instruction with no memory operand; segment bytes before SCAS or STOS. A
prefix byte of any kind that stands in the run after it again changes nothing. That idle prefixes are ignored is the
spec's own decision (D13, D15; log entry 20), that repeats are is log entry 34. 66h before the stores of system
registers is not called idle: decoding records it with the instruction. (30_encoding.md R97; 30_encoding.md R99;
30_encoding.md R103; 30_encoding.md R119; 20_memory.md R88; 44_setcc.md R239; 92_eei_decisions.md D13, D15.) -/
def Obligations.IgnoredPrefixes : Prop :=
  (∀ (dflt : Size) (i : Instr) (pre rest : List Byte), i.wf = true → (∀ b ∈ pre, idlePrefix i b) →
    decode dflt (pre ++ encode dflt i ++ rest) = .ok (i.canon, rest)) ∧
  ∀ (dflt : Size) (b : Byte) (pre rest : List Byte), (∀ p ∈ pre, p ∈ prefixBytes) → b ∈ pre →
    decode dflt (b :: pre ++ rest) = decode dflt (pre ++ rest)

/-- Any first or second opcode byte that R112 and R113 do not list, and any digit of a listed group that they do not
list, after any run of size and segment prefix bytes and whatever bytes follow, is answered notInScope. Where these
bytes, 15 at most, lie at CS:EIP inside the CS limit and no event is taken, the step is the refusal notInScope. That
the model refuses and raises no #UD is the spec's own decision (D18; log entry 19). (30_encoding.md R112;
30_encoding.md R113; 30_encoding.md R117; 92_eei_decisions.md D18.) -/
def Obligations.OutOfScopeRefused : Prop :=
  ∀ pre bs : List Byte, (∀ b ∈ pre, b ∈ 0x66#8 :: 0x67#8 :: segBytes) → outsideTables bs →
    (∀ (dflt : Size) (rest : List Byte), decode dflt (pre ++ bs ++ rest) = .error .notInScope) ∧
    ∀ s : State, quiet s →
      let u := passBoundary s
      (pre ++ bs).length ≤ 15 → codeAt u (pre ++ bs) → codeInside u (pre ++ bs).length →
      step s = .refused .notInScope

/-- Every instruction answers in every state what its canonical spelling answers. (30_encoding.md R109; 41_shift.md
R188.) -/
def Obligations.AliasesExecuteAlike : Prop :=
  ∀ (i : Instr) (s : State), exec i.canon s = exec i s

/-- Where no event is taken at the boundary, the bytes at CS:EIP decode to i, and outside real-address mode the oracle
reports no page fault on its bytes, step is exec of i in the state past the boundary with EIP advanced by the length
and one draw taken for the bytes fetched, nothing else changed. That exec sees EIP already advanced is the model's
choice (log entry 35), the wrap is D31 (log entry 13). (00_scope.md R19; 30_encoding.md R119; 60_exceptions.md R462;
92_eei_decisions.md D31.) -/
def Obligations.StepRunsDecoded : Prop :=
  ∀ (s : State) (i : Instr) (rest : List Byte), quiet s →
    let u := passBoundary s
    let len := (fetchWindow u).length - rest.length
    decode (codeSize u) (fetchWindow u) = .ok (i, rest) →
    (u.mode ≠ .realAddress → u.pageFault ((codeLoc u).lin u 0) len .fetch = none) →
    step s = exec i (afterFetch u len) ∧
    (∃ eip, afterFetch u len = (u.withEip eip).withDraws (u.draws + 1)) ∧
    (afterFetch u len).eip.toNat = (u.eip.toNat + len) % (if u.cs.d then 2 ^ 32 else 2 ^ 16)

/-- For every well-formed instruction: if its encoding lies in memory from CS:EIP on, whatever follows it, all inside
the CS limit, no event is taken and no page fault is reported, step answers what exec of the instruction answers
with EIP advanced by the number of bytes. (30_encoding.md R119; 10_state.md R27; 60_exceptions.md R453.) -/
def Obligations.EncodedInstructionRuns : Prop :=
  ∀ (s : State) (i : Instr), i.wf = true → quiet s →
    let u := passBoundary s
    let bs := encode (codeSize u) i
    codeAt u bs → codeInside u bs.length →
    (u.mode ≠ .realAddress → u.pageFault ((codeLoc u).lin u 0) bs.length .fetch = none) →
    step s = exec i (afterFetch u bs.length)

/-- A step is the NMI outcome exactly when NMI is pending, and the external outcome exactly when NMI is not, an external
interrupt is, IF is 1 and IntShadow is 0; otherwise it fetches and executes. That NMI comes before an external
interrupt and that both outcomes are terminal is the spec's own decision (D20; log entry 1). (60_exceptions.md R462;
60_exceptions.md R460, R461; 92_eei_decisions.md D20.) -/
def Obligations.InterruptRecognition : Prop :=
  ∀ s : State,
    (step s = .fault (.interrupt .nmi) ↔ (nextInput s).nmi = true) ∧
    (step s = .fault (.interrupt .external) ↔
      (nextInput s).nmi = false ∧ (nextInput s).ext = true ∧ s.flags.ifl = true ∧ s.intShadow = false) ∧
    (quiet s → step s = fetchExecute (passBoundary s))

/-- After an STI that found IF 0, a pending external interrupt is not taken at the next boundary; after one further
instruction that completes and leaves IF set, it is, where no NMI is pending. With a second STI as that further
instruction the interrupt is taken by the spec's own decision D21, which the model follows (log entry 24): the
source only says that it may be (R489). (48_stc_std_sti_stos_str.md R358; 70_reset_and_hazards.md R488, R489;
49_sub_sysenter_sysexit.md R428; 92_eei_decisions.md D21.) -/
def Obligations.StiWindow : Prop :=
  ∀ (s t : State), s.flags.ifl = false → exec .sti s = .next t →
    (∀ inp, step (t.withInputs inp) ≠ .fault (.interrupt .external)) ∧
    (∀ (i : Instr) (t' u : State), t'.flags = t.flags → t'.intShadow = t.intShadow → exec i t' = .next u →
      u.flags.ifl = true →
      ∀ p inp, step (u.withInputs (⟨false, true, p⟩ :: inp)) = .fault (.interrupt .external))

/-- Whenever an instruction completes, IntShadow is set after it exactly when it was STI and IF was 0 before it. That an
STI which finds IF 1 sets no IntShadow is the spec's own decision (D21; log entry 24). (10_state.md R55;
48_stc_std_sti_stos_str.md R358; 92_eei_decisions.md D21.) -/
def Obligations.ShadowOnlyFromSti : Prop :=
  ∀ (i : Instr) (s t : State), exec i s = .next t → (t.intShadow = true ↔ i = .sti ∧ s.flags.ifl = false)

/-- For a well-formed instruction whose encoding lies at CS:EIP in an expand-up code segment: if its bytes pass the CS
limit the step is #GP, bare in real-address mode and with code 0 otherwise; if they do not, and outside real-address
mode the oracle reports a fault on them, it is that #PF. These faults are the spec's own decision (D22; log entry
25). (60_exceptions.md R452; 60_exceptions.md R453; 92_eei_decisions.md D22; 30_encoding.md R119.) -/
def Obligations.FetchFaults : Prop :=
  ∀ (s : State) (i : Instr), i.wf = true → quiet s →
    let u := passBoundary s
    let bs := encode (codeSize u) i
    u.cs.expandDown = false → codeAt u bs →
    (u.cs.byteLimit < u.eip.toNat + bs.length - 1 →
      step s = .fault (.exception (.gp (if u.mode = .realAddress then none else some 0)))) ∧
    (u.eip.toNat + bs.length - 1 ≤ u.cs.byteLimit → u.mode ≠ .realAddress →
      ∀ e, u.pageFault ((codeLoc u).lin u 0) bs.length .fetch = some e →
        step s = .fault (.exception (.pf e.code e.faultLin)))

/-- If the fifteen bytes at CS:EIP are inside the CS limit and all prefix bytes, the step is #GP(0) on a processor from
the Intel386 on and a refusal on an earlier one. The refusal, and that neither waits for a page fault on the bytes,
is the model's choice (log entry 25), and so is that F0h, F2h and F3h among the fifteen bytes make no LOCK or REP
refusal of it (log entry 19; R98, R99 and R118 give no order). (30_encoding.md R118; 93_implementation_defined.md
U22.) -/
def Obligations.TooLongInstruction : Prop :=
  ∀ s : State, quiet s →
    let u := passBoundary s
    codeInside u 15 → (∀ k, k < 15 → u.byteAt ((codeLoc u).lin u k) ∈ prefixBytes) →
    step s = if u.cfg.procGen.has32 then .fault (.exception (.gp (some 0))) else .refused .instructionTooLong

/-- The check of any access answers no exception exactly when the segment is not null, is writable where it must be,
holds the bytes, alignment checking has nothing to object to and the oracle reports no page fault, each in the modes
the rules give. Expand-down segments are the free value of log entry 32. (20_memory.md R68; 20_memory.md R69 to R74;
45_sgdt_sidt.md R286.) -/
def Obligations.ChecksPassWhenAccessible : Prop :=
  ∀ (s : State) (l : Loc) (n : Nat) (k : AccessKind), checkAccess s l n k = none ↔ Accessible s l n k

/-- Null selector, nonwritable segment, limit, alignment, page fault: the first that fails names the exception; #SS
replaces #GP on the limit of SS; the limit codes are bare in real-address mode and 0 otherwise. The order is the
spec's own decision (D6; log entry 14). (20_memory.md R68; 60_exceptions.md R452; 60_exceptions.md R448;
92_eei_decisions.md D6.) -/
def Obligations.ChecksInOrder : Prop :=
  ∀ (s : State) (l : Loc) (n : Nat) (k : AccessKind),
    let r := s.seg l.seg
    let code : Option Nat := if s.mode = .realAddress then none else some 0
    let isNull : Prop := s.mode = .protectedMode ∧ l.seg ≠ .ss ∧ l.seg ≠ .cs ∧ r.sel.toNat < 4
    let noWrite : Prop := s.mode = .protectedMode ∧ k ≠ .read ∧ (r.typ.getLsbD 3 = true ∨ r.typ.getLsbD 1 = false)
    let beyond : Prop := outsideLimit s.mode r l.off.toNat n = true
    let misaligned : Prop := s.mode ≠ .realAddress ∧ s.cr0.getLsbD 18 = true ∧ s.flags.ac = true ∧ s.cpl = 3#2 ∧
      unaligned (l.lin s 0).toNat n = true
    (isNull → checkAccess s l n k = some (.gp (some 0))) ∧
    (¬ isNull → noWrite → checkAccess s l n k = some (.gp (some 0))) ∧
    (¬ isNull → ¬ noWrite → beyond → l.seg = .ss → checkAccess s l n k = some (.ss code)) ∧
    (¬ isNull → ¬ noWrite → beyond → l.seg ≠ .ss → checkAccess s l n k = some (.gp code)) ∧
    (¬ isNull → ¬ noWrite → ¬ beyond → misaligned → checkAccess s l n k = some (.ac 0)) ∧
    (¬ isNull → ¬ noWrite → ¬ beyond → ¬ misaligned → s.mode ≠ .realAddress →
      ∀ e, s.pageFault (l.lin s 0) n k = some e → checkAccess s l n k = some (.pf e.code e.faultLin))

/-- For every instruction and the data access the table gives it (bytes, kind, segment): where the processor has the
instruction, and SLDT and STR are in protected mode, a failing check is the outcome, masked counts of 0 and false
conditions included. That a masked count of 0 still makes the checks is the spec's own decision, which the source
does not settle (D19 in R148 and R300; log entry 23); false conditions are R238's; that a failing check comes before
any effect is D6 (log entry 14). (20_memory.md R68; 20_memory.md R76; 20_memory.md R77; 60_exceptions.md R450;
44_setcc.md R238; 41_shift.md R148; 46_shld_shrd.md R300; 92_eei_decisions.md D6, D19.) -/
def Obligations.AccessFaults : Prop :=
  ∀ (i : Instr) (s : State) (a : Access) (e : Exception), dataAccess s i = some a →
    (operand32 i = true → s.cfg.procGen.has32 = true) →
    (a.n = 6 → s.cfg.procGen ≠ .i8086) →
    (∀ dst osz, i = .sldtRm16 dst ∨ i = .sldtRm32 dst ∨ i = .strRm16 osz dst → s.mode = .protectedMode) →
    checkAccess s a.loc a.n a.kind = some e → exec i s = .fault (.exception e)

/-- Every fault of every instruction is #UD, #GP, #SS, #PF or #AC for a row, mode, operand and cause that R443 to R447
and the table of R450 list: #GP with code 0 from STI, SYSENTER and SYSEXIT by their own tests, and #GP and #SS from
a memory check, bare in real-address mode and with code 0 otherwise; #PF with the oracle's code and address; #AC
with code 0. #UD without the facility is the spec's own decision (D17; log entry 22); expand-down limits are the
free value of log entry 32. (60_exceptions.md R442; 60_exceptions.md R443 to R448; 60_exceptions.md R449;
60_exceptions.md R450; 92_eei_decisions.md D17.) -/
def Obligations.OnlyListedExceptions : Prop :=
  ∀ (i : Instr) (s : State) (f : Fault), exec i s = .fault f → ∃ e, f = .exception e ∧ mayRaise s i e

/-- For 1, 2 and 4 bytes at any location: a write reads back whatever draw the read takes, memory holds each byte with
its eight bits, no other byte changes, and a word or byte read sees the low part of the doubleword there. The byte
order and the wrap of offsets are the spec's own decisions (D4, D5; log entries 12, 13). (20_memory.md R65;
20_memory.md R66; 92_eei_decisions.md D4, D5.) -/
def Obligations.MemoryReadAfterWrite : Prop :=
  ∀ (s : State) (w : Width) (l : Loc) (v : BitVec w.bits),
    readsAs (s.writeLoc w l v) w l v ∧
    (∀ k, k < w.bytes →
      ((s.writeLoc w l v).heldAt (l.lin s k)).map BitVec.toNat = some (v.toNat / 2 ^ (8 * k) % 256)) ∧
    memKeptOutside s (s.writeLoc w l v) l w.bytes ∧
    (s.readLoc .w16 l).toNat = (s.readLoc .w32 l).toNat % 65536 ∧
    (s.readLoc .w8 l).toNat = (s.readLoc .w32 l).toNat % 256

/-- A register of any width reads back what was written; every register bit outside it is unchanged; AL to BL and AH to
BH are bits 7:0 and 15:8 and AX to DI bits 15:0 of the 32-bit registers. (10_state.md R21; 10_state.md R22;
10_state.md R23.) -/
def Obligations.RegisterViews : Prop :=
  ∀ (s : State) (w : Width) (n : RegNum) (v : BitVec w.bits),
    (s.writeReg w n v).readReg w n = v ∧ regsKeptOutside s (s.writeReg w n v) w n ∧
    (s.readReg .w16 n).toNat = (s.reg32 n).toNat % 65536 ∧
    (∀ k : RegNum, k.toNat < 4 → n = k → (s.readReg .w8 n).toNat = (s.reg32 k).toNat % 256) ∧
    (∀ k : RegNum, k.toNat < 4 → n = k + 4#3 → (s.readReg .w8 n).toNat = (s.reg32 k).toNat / 256 % 256)

/-- For every form with AddressSize 16 or 32 the offset is the sum of the table modulo 2^16 or 2^32, and the segment is
the override if there is one, else SS for the BP, EBP and ESP based forms and DS for the rest. (30_encoding.md R101;
30_encoding.md R102; 30_encoding.md R103.) -/
def Obligations.EffectiveAddresses : Prop :=
  ∀ (s : State) (m : MemRef),
    (∀ a, m.ea = .a16 a → ((memLoc m s).off.toNat : Int) = sum16 s a % 65536) ∧
    (∀ a, m.ea = .a32 a → ((memLoc m s).off.toNat : Int) = sum32 s a % 4294967296) ∧
    (∀ o, m.override = some o → (memLoc m s).seg = o) ∧
    (m.override = none → stackBased m.ea → (memLoc m s).seg = .ss) ∧
    (m.override = none → ¬ stackBased m.ea → (memLoc m s).seg = .ds)

/-- At every width and every count of at least 1 the model results and last bits shifted out of SAL/SHL, SAR and SHR are
those of the source loop, and the closed forms of the three rules. (R143; R144; R145.) -/
def Obligations.ShiftFunctionsAreLoops : Prop :=
  ∀ (w : Width) (d : BitVec w.bits) (c : Nat), 1 ≤ c →
    (∀ op, (shiftResult op d c, shiftCarry op d c) = shiftLoop op c (d, false)) ∧
    (shiftResult .shl d c).toNat = d.toNat * 2 ^ c % 2 ^ w.bits ∧
    (w.bits ≤ c → (shiftResult .shl d c).toNat = 0) ∧
    (c ≤ w.bits → shiftCarry .shl d c = d.getLsbD (w.bits - c)) ∧
    (w.bits < c → shiftCarry .shl d c = false) ∧
    (shiftResult .sar d c).toInt = d.toInt / 2 ^ c ∧
    (c ≤ w.bits → shiftCarry .sar d c = d.getLsbD (c - 1)) ∧
    (w.bits < c → shiftCarry .sar d c = d.getLsbD (w.bits - 1)) ∧
    (w.bits - 1 ≤ c → (shiftResult .sar d c).toInt = if d.getLsbD (w.bits - 1) then -1 else 0) ∧
    (shiftResult .shr d c).toNat = d.toNat / 2 ^ c ∧
    (w.bits ≤ c → (shiftResult .shr d c).toNat = 0) ∧
    (c ≤ w.bits → shiftCarry .shr d c = d.getLsbD (c - 1)) ∧
    (w.bits < c → shiftCarry .shr d c = false)

/-- Each of the thirty-six rows (r/m8, r/m16, r/m32 by 1, CL, imm8) completes for every register destination and every
accessible memory destination: the destination holds the result of the loop, CF its last bit where it is defined,
SF, ZF, PF describe the result, OF is the defined value at count 1; AF, and CF and OF where undefined, are left
open; no other register bit, flag, memory byte or system state changes. (41_shift.md R141, R142; 41_shift.md R143 to
R147; 10_state.md R36; 10_state.md R55.) -/
def Obligations.ShiftCompletes : Prop :=
  ∀ (i : Instr) (r : ShiftRow) (s : State), shiftRow i = some r → Available s r.w →
    RmAccessible s r.dst r.w.bytes .readwrite → shiftCount s r.count ≠ 0 →
    let d := readRm s r.w r.dst
    let c := shiftCount s r.count
    let p := shiftLoop r.op c (d, false)
    ∃ t, exec i s = .next t ∧ completes s t ∧ dstHolds s t r.w r.dst p.1 ∧ controlFlagsKept s.flags t.flags ∧
      resultFlags t.flags p.1 ∧ (carryDefined r.op r.w.bits c → t.flags.cf = p.2) ∧
      (c = 1 → t.flags.ofl = overflowOne r.op d)

/-- Each of the CL and imm8 rows completes with every register, all flags and memory as before; the raw counts 20h to
E0h in steps of 20h are count 0 on every processor but the i8086. That the checks are still made is the spec's own
decision (D19; log entry 23). (41_shift.md R142; 41_shift.md R148; 92_eei_decisions.md D19.) -/
def Obligations.ShiftByZeroChangesNothing : Prop :=
  ∀ (i : Instr) (r : ShiftRow) (s : State), shiftRow i = some r → Available s r.w →
    (RmAccessible s r.dst r.w.bytes .readwrite → shiftCount s r.count = 0 →
      exec i s = .next (s.withIntShadow false)) ∧
    (s.cfg.procGen ≠ .i8086 → r.count.raw s ∈ [0, 32, 64, 96, 128, 160, 192, 224] → shiftCount s r.count = 0)

/-- Each of the eight rows (16 and 32 bits, imm8 and CL) completes: every bit of the destination is the one the source
loops assign, CF the last bit shifted out, SF, ZF, PF describe the result, OF at count 1 is the sign change; AF, and
OF at a larger count, are left open; nothing else changes. (46_shld_shrd.md R296; 46_shld_shrd.md R297, R298;
46_shld_shrd.md R299; 46_shld_shrd.md R318.) -/
def Obligations.DoubleShiftCompletes : Prop :=
  ∀ (i : Instr) (r : DoubleShiftRow) (s : State), dshiftRow i = some r → Available s r.w →
    RmAccessible s r.dst r.w.bytes .readwrite →
    let d := readRm s r.w r.dst
    let src := s.readReg r.w r.src
    let c := r.count.raw s % 32
    1 ≤ c → c < r.w.bits →
    ∃ t v, exec i s = .next t ∧ completes s t ∧ dstHolds s t r.w r.dst v ∧
      (∀ j, j < r.w.bits → v.getLsbD j = dshiftBit r.op d src c j) ∧ controlFlagsKept s.flags t.flags ∧
      resultFlags t.flags v ∧ t.flags.cf = dshiftOut r.op d c ∧
      (c = 1 → t.flags.ofl = (d.getLsbD (r.w.bits - 1) != v.getLsbD (r.w.bits - 1)))

/-- Each of the eight rows completes with every register, all flags and memory as before when bits 4:0 of the count are
0, on every processor that has the row. That the checks are still made is the spec's own decision (D19; log entry
23). (46_shld_shrd.md R300; 46_shld_shrd.md R318; 92_eei_decisions.md D19.) -/
def Obligations.DoubleShiftByZeroChangesNothing : Prop :=
  ∀ (i : Instr) (r : DoubleShiftRow) (s : State), dshiftRow i = some r → Available s r.w →
    RmAccessible s r.dst r.w.bytes .readwrite → r.count.raw s % 32 = 0 →
    exec i s = .next (s.withIntShadow false)

/-- Each 16-bit row with a masked count of 16 to 31 completes: the destination is written with some value, which is left
open, as are the six status flags; no other register bit, flag, memory byte or system state changes. That a count
equal to the width is among these is the choice between two places of the source that C2 makes (log entry 28).
(46_shld_shrd.md R301; 90_conflicts.md C2; 93_implementation_defined.md U4.) -/
def Obligations.DoubleShiftPastWidth : Prop :=
  ∀ (i : Instr) (r : DoubleShiftRow) (s : State), dshiftRow i = some r → Available s r.w →
    RmAccessible s r.dst r.w.bytes .readwrite → r.w.bits ≤ r.count.raw s % 32 →
    ∃ t v, exec i s = .next t ∧ completes s t ∧ dstHolds s t r.w r.dst v ∧ controlFlagsKept s.flags t.flags

/-- For a, b of width 8, 16 or 32 and any borrow in: CF is the unsigned borrow, OF the exact signed difference leaving
the range and equally the sign formula, SF the top bit, ZF a zero result, PF the parity of the low byte, AF the
borrow out of bit 3. (R192.) -/
def Obligations.SubtractionFlags : Prop :=
  ∀ (w : Width) (f : Eflags) (a b : BitVec w.bits) (cin : Bool),
    let r := subResult a b cin
    let g := subFlags f a b cin
    isDifference a b cin r ∧
    (g.cf = true ↔ a.toNat < b.toNat + cin.toNat) ∧
    (g.ofl = true ↔ signedBorrow a b cin) ∧
    g.ofl = ((a.getLsbD (w.bits - 1) != b.getLsbD (w.bits - 1)) && (a.getLsbD (w.bits - 1) != r.getLsbD (w.bits - 1))) ∧
    g.sf = r.getLsbD (w.bits - 1) ∧
    (g.zf = true ↔ r.toNat = 0) ∧
    (g.pf = true ↔ evenParity r) ∧
    (g.af = true ↔ a.toNat % 16 < b.toNat % 16 + cin.toNat) ∧
    controlFlagsKept f g

/-- Each of the fourteen SBB and fourteen SUB rows (accumulator, r/m and immediate, r/m and register, register and r/m)
completes for register operands and accessible memory operands: the destination holds (a - (b + cin)) mod 2^w with
cin the old CF for SBB and 0 for SUB, the six flags are those of that difference, nothing else changes. (42_sbb.md
R191, R192, R211; 49_sub_sysenter_sysexit.md R386, R404.) -/
def Obligations.SubtractCompletes : Prop :=
  ∀ (i : Instr) (r : SubRow) (s : State), subRow i = some r → Available s r.w →
    RmAccessible s r.dst r.w.bytes .readwrite → r.src.accessible s →
    let a := readRm s r.w r.dst
    let b := r.src.value s
    let cin := r.carry && s.flags.cf
    ∃ t d, exec i s = .next t ∧ completes s t ∧ isDifference a b cin d ∧ dstHolds s t r.w r.dst d ∧
      differenceFlags t.flags a b cin d ∧ controlFlagsKept s.flags t.flags

/-- Each of the six rows at either address size completes where ES:(E)DI is readable: the flags are those of AL, AX or
EAX minus the operand, (E)DI is stepped by 1, 2 or 4 up or down by DF modulo its size, no other register and no
memory byte changes. The wrap of (E)DI is the spec's own decision (D5; log entry 13). (43_scas.md R216; 43_scas.md
R217; 20_memory.md R86, R89; 92_eei_decisions.md D5.) -/
def Obligations.ScasCompletes : Prop :=
  ∀ (i : Instr) (w : Width) (asz : Size) (s : State), scasRow i = some (w, asz) → Available s w →
    Accessible s (stringOperand s asz) w.bytes .read →
    let a := s.readReg w 0#3
    let b := s.readLoc w (stringOperand s asz)
    ∃ t d, exec i s = .next t ∧ completes s t ∧ isDifference a b false d ∧ differenceFlags t.flags a b false d ∧
      controlFlagsKept s.flags t.flags ∧ ediStepped s t w asz ∧ memKept s t

/-- Each of the six rows at either address size completes where ES:(E)DI is writable: the operand there holds AL, AX or
EAX, (E)DI is stepped by 1, 2 or 4 up or down by DF modulo its size, no flag, other register or other memory byte
changes. The wrap of (E)DI is the spec's own decision (D5; log entry 13). (48_stc_std_sti_stos_str.md R364;
48_stc_std_sti_stos_str.md R365; 20_memory.md R87, R89; 92_eei_decisions.md D5.) -/
def Obligations.StosCompletes : Prop :=
  ∀ (i : Instr) (w : Width) (asz : Size) (s : State), stosRow i = some (w, asz) → Available s w →
    Accessible s (stringOperand s asz) w.bytes .write →
    ∃ t, exec i s = .next t ∧ completes s t ∧ t.flags = s.flags ∧
      readsAs t w (stringOperand s asz) (s.readReg w 0#3) ∧ ediStepped s t w asz ∧
      memKeptOutside s t (stringOperand s asz) w.bytes

/-- For every cc and every flags, the model condition holds exactly when the table condition does, and cc XOR 1 gives
its negation; the bytes 0Fh, 90h + cc decode to a SETcc row of that cc or are cut short, and with a register ModR/M
byte of any reg field to one whose destination is that register; every SETcc mnemonic of a row carries its cc. That
the reg field of the ModR/M byte takes part in nothing is the spec's own decision (D16 in R239; log entry 21). The
last clause says which cc the table of Reference.lean gives each mnemonic; SetccCompletes says that exec goes by it.
(44_setcc.md R237; 44_setcc.md R239; 30_encoding.md R113; 92_eei_decisions.md D16.) -/
def Obligations.ConditionTable : Prop :=
  (∀ (cc : BitVec 4) (f : Eflags), (condHolds cc f = true ↔ condition cc.toNat f) ∧ condHolds (cc ^^^ 1#4) f = !condHolds cc f) ∧
  (∀ (dflt : Size) (cc : BitVec 4) (bs : List Byte),
    (∃ i rest dst, decode dflt (0x0F#8 :: (0x90#8 + cc.zeroExtend 8) :: bs) = .ok (i, rest) ∧
      setccRow i = some (cc.toNat, dst)) ∨
    decode dflt (0x0F#8 :: (0x90#8 + cc.zeroExtend 8) :: bs) = .error .truncated) ∧
  (∀ (dflt : Size) (cc : BitVec 4) (reg rm : RegNum) (rest : List Byte),
    ∃ i, decode dflt (0x0F#8 :: (0x90#8 + cc.zeroExtend 8) :: packModRM 3#2 reg rm :: rest) = .ok (i, rest) ∧
      setccRow i = some (cc.toNat, .reg rm)) ∧
  ∀ dst : RM,
    (setccRow (.seto dst) = some (0, dst) ∧ setccRow (.setno dst) = some (1, dst) ∧ setccRow (.sets dst) = some (8, dst) ∧
      setccRow (.setns dst) = some (9, dst)) ∧
    (∀ i ∈ [Instr.setb dst, .setc dst, .setnae dst], setccRow i = some (2, dst)) ∧
    (∀ i ∈ [Instr.setae dst, .setnb dst, .setnc dst], setccRow i = some (3, dst)) ∧
    (∀ i ∈ [Instr.sete dst, .setz dst], setccRow i = some (4, dst)) ∧
    (∀ i ∈ [Instr.setne dst, .setnz dst], setccRow i = some (5, dst)) ∧
    (∀ i ∈ [Instr.setbe dst, .setna dst], setccRow i = some (6, dst)) ∧
    (∀ i ∈ [Instr.seta dst, .setnbe dst], setccRow i = some (7, dst)) ∧
    (∀ i ∈ [Instr.setp dst, .setpe dst], setccRow i = some (10, dst)) ∧
    (∀ i ∈ [Instr.setnp dst, .setpo dst], setccRow i = some (11, dst)) ∧
    (∀ i ∈ [Instr.setl dst, .setnge dst], setccRow i = some (12, dst)) ∧
    (∀ i ∈ [Instr.setge dst, .setnl dst], setccRow i = some (13, dst)) ∧
    (∀ i ∈ [Instr.setle dst, .setng dst], setccRow i = some (14, dst)) ∧
    (∀ i ∈ [Instr.setg dst, .setnle dst], setccRow i = some (15, dst))

/-- Each of the thirty SETcc rows completes for a byte register and for an accessible byte of memory, in every mode: the
destination holds 01h where the condition of its cc holds and 00h where it does not; flags, all other register bits
and memory bytes are unchanged. (44_setcc.md R236; 44_setcc.md R237; 44_setcc.md R274.) -/
def Obligations.SetccCompletes : Prop :=
  ∀ (i : Instr) (cc : Nat) (dst : RM) (s : State), setccRow i = some (cc, dst) → RmAccessible s dst 1 .write →
    ∃ t, exec i s = .next t ∧ completes s t ∧ t.flags = s.flags ∧
      (condition cc s.flags → dstHolds s t .w8 dst 1#8) ∧ (¬ condition cc s.flags → dstHolds s t .w8 dst 0#8)

/-- SGDT stores GDTR and SIDT IDTR in the six accessible bytes of a memory operand: limit, then base low byte first;
with OperandSize 32 the whole base, with 16 its low 24 bits and a sixth byte that is FFh on the i286 and 00h on the
later processors; flags, registers and every other byte are unchanged. On the i8086 both are refused. The sixth byte
00h on the Pentium II and the refusal on the i8086 are the spec's own decision (D2 in R284; log entry 16).
(45_sgdt_sidt.md R281, R282; 45_sgdt_sidt.md R283; 45_sgdt_sidt.md R284; 92_eei_decisions.md D2.) -/
def Obligations.TableStoreCompletes : Prop :=
  ∀ (i : Instr) (osz : Size) (m : MemRef) (tab : TableReg) (s : State),
    (i = .sgdt osz (.mem m) ∧ tab = s.gdtr ∨ i = .sidt osz (.mem m) ∧ tab = s.idtr) →
    (s.cfg.procGen ≠ .i8086 → Accessible s (memLoc m s) 6 .write →
      ∃ t, exec i s = .next t ∧ completes s t ∧ t.flags = s.flags ∧ regsKept s t ∧
        (∀ k, k < 6 → (t.heldAt ((memLoc m s).lin s k)).map BitVec.toNat = some (tableByte osz s.cfg.procGen tab k)) ∧
        memKeptOutside s t (memLoc m s) 6) ∧
    (s.cfg.procGen = .i8086 → exec i s = .refused .noDescriptorTables)

/-- In protected mode both rows complete: a 16-bit register or a word of memory takes the selector; a 32-bit register
takes it below a high half that is 0 on the Pentium Pro and Pentium II and left open on the Intel386, Intel486 and
Pentium; the 32-bit row is refused on the i8086 and i286; nothing else changes. The high half 0 on the Pentium II
and the refusal on the i8086 and i286 are the spec's own decision (D3 in R328; log entries 17 and 15).
(47_sldt_smsw.md R326, R327; 47_sldt_smsw.md R328; 92_eei_decisions.md D3.) -/
def Obligations.SldtCompletes : Prop :=
  ∀ (dst : RM) (s : State), s.mode = .protectedMode →
    (RmAccessible s dst 2 .write →
      ∃ t, exec (.sldtRm16 dst) s = .next t ∧ completes s t ∧ t.flags = s.flags ∧
        wordStored s t .s16 dst s.ldtr fun _ => True) ∧
    (s.cfg.procGen.has32 = true → RmAccessible s dst 2 .write →
      ∃ t, exec (.sldtRm32 dst) s = .next t ∧ completes s t ∧ t.flags = s.flags ∧
        wordStored s t .s32 dst s.ldtr fun h =>
          s.cfg.procGen = .pentiumPro ∨ s.cfg.procGen = .pentiumII → h = 0#16) ∧
    (s.cfg.procGen = .i8086 ∨ s.cfg.procGen = .i286 → exec (.sldtRm32 dst) s = .refused .no32BitOperands)

/-- In every mode and at every CPL both rows complete: a 16-bit register or a word of memory takes CR0[15:0]; a 32-bit
register takes it below a high half that is left open, on every processor; nothing else changes. That the 32-bit row
runs on the i8086 and i286 too is the model's choice (log entry 15, after T10 and U7). (47_sldt_smsw.md R336, R337;
47_sldt_smsw.md R339; 93_implementation_defined.md U7; 95_test_vectors.md T10.) -/
def Obligations.SmswCompletes : Prop :=
  ∀ (dst : RM) (s : State), RmAccessible s dst 2 .write →
    (∃ t, exec (.smswRm16 dst) s = .next t ∧ completes s t ∧ t.flags = s.flags ∧
      wordStored s t .s16 dst (BitVec.ofNat 16 (s.cr0.toNat % 65536)) fun _ => True) ∧
    (∃ t, exec (.smswR32M16 dst) s = .next t ∧ completes s t ∧ t.flags = s.flags ∧
      wordStored s t .s32 dst (BitVec.ofNat 16 (s.cr0.toNat % 65536)) fun _ => True)

/-- In protected mode STR completes: a 16-bit register or a word of memory takes the selector, a 32-bit register takes
it below a zero high half on every processor; nothing else changes. That OperandSize 32 runs on the i8086 and i286
too is the model's choice (log entry 15, after T7). (48_stc_std_sti_stos_str.md R375; 48_stc_std_sti_stos_str.md
R376; 90_conflicts.md C9; 95_test_vectors.md T7.) -/
def Obligations.StrCompletes : Prop :=
  ∀ (osz : Size) (dst : RM) (s : State), s.mode = .protectedMode → RmAccessible s dst 2 .write →
    ∃ t, exec (.strRm16 osz dst) s = .next t ∧ completes s t ∧ t.flags = s.flags ∧
      wordStored s t osz dst s.tr fun h => h = 0#16

/-- SAHF completes in every state: the low byte of EFLAGS is (AH AND D5h) OR 02h, EFLAGS[31:8], every register and all
memory are unchanged. (40_sahf.md R130, R131, R132, R134.) -/
def Obligations.SahfCompletes : Prop :=
  ∀ s : State, ∃ t, exec .sahf s = .next t ∧ completes s t ∧ regsKept s t ∧ memKept s t ∧
    t.flags.toWord.extractLsb' 0 8 = ((s.reg32 0#3).extractLsb' 8 8 &&& 0xD5#8) ||| 0x02#8 ∧
    t.flags.toWord.extractLsb' 8 24 = s.flags.toWord.extractLsb' 8 24

/-- STC and STD complete in every state: EFLAGS gains exactly bit 0 (CF) or bit 10 (DF), every register and all memory
are unchanged. (48_stc_std_sti_stos_str.md R345; 48_stc_std_sti_stos_str.md R350; 10_state.md R32.) -/
def Obligations.StcAndStdComplete : Prop :=
  ∀ s : State,
    (∃ t, exec .stc s = .next t ∧ completes s t ∧ regsKept s t ∧ memKept s t ∧
      t.flags.toWord = s.flags.toWord ||| 0x00000001#32) ∧
    (∃ t, exec .std s = .next t ∧ completes s t ∧ regsKept s t ∧ memKept s t ∧
      t.flags.toWord = s.flags.toWord ||| 0x00000400#32)

/-- STI completes exactly in real-address mode, in protected mode with CPL at most IOPL, and in virtual-8086 mode with
IOPL 3: IF becomes 1, IntShadow is set exactly when IF was 0, no other flag, register, memory byte or system state
changes. Otherwise it raises #GP(0). That IntShadow is set only when IF was 0 is the spec's own decision (D21 in
R358; log entry 24); the virtual-8086 case is C4's choice between two places of the source (log entry 28).
(48_stc_std_sti_stos_str.md R355, R356; 48_stc_std_sti_stos_str.md R358; 48_stc_std_sti_stos_str.md R359;
90_conflicts.md C4; 92_eei_decisions.md D21.) -/
def Obligations.StiDecisionTable : Prop :=
  ∀ s : State,
    (stiMay s → ∃ t, exec .sti s = .next t ∧ systemKept s t ∧ ringKept s t ∧ regsKept s t ∧ memKept s t ∧
      t.flags = { s.flags with ifl := true } ∧ (t.intShadow = true ↔ s.flags.ifl = false)) ∧
    (¬ stiMay s → exec .sti s = .fault (.exception (.gp (some 0))))

/-- The model predicate is the SEP bit with the family, model and stepping qualification, false on every Pentium Pro.
That it is forced false on every Pentium Pro is R470's own reading of the source (log entry 22). (60_exceptions.md
R470.) -/
def Obligations.FacilityPredicate : Prop :=
  ∀ c : Config, fastSystemCallPresent c = true ↔ facility c

/-- With the facility, outside real-address mode and with a nonzero SYSENTER_CS_MSR, SYSENTER completes from any CPL,
virtual-8086 mode included: VM and IF are cleared, CS and SS are the flat ring 0 segments with selectors M AND FFFCh
and that plus 8, CPL is 0, ESP and EIP come from the MSRs; no other flag or register, no memory byte and no other
system state changes. After SYSENTER, and after SYSEXIT wherever it completes, the byte limit of CS and of SS is
FFFFFFFFh. The 4 GB byte limit is the reading of a conflict that C5 makes (log entry 33); the 16-bit MSR and the
selector sum kept to 16 bits are D10 and U14 (log entry 18). (49_sub_sysenter_sysexit.md R408;
49_sub_sysenter_sysexit.md R410; 49_sub_sysenter_sysexit.md R411; 49_sub_sysenter_sysexit.md R412, R413;
60_exceptions.md R470; 90_conflicts.md C5; 92_eei_decisions.md D10; 93_implementation_defined.md U13, U14.) -/
def Obligations.SysenterCompletes : Prop :=
  (∀ s : State, facility s.cfg → s.pe = true → s.sysenterCs ≠ 0#16 →
    let m := s.sysenterCs.toNat
    ∃ t, exec .sysenter s = .next t ∧ systemKept s t ∧ memKept s t ∧ t.intShadow = false ∧
      t.flags = { s.flags with vm := false, ifl := false } ∧
      flat t.cs (m / 4 * 4) 0b1011 0 ∧ flat t.ss ((m / 4 * 4 + 8) % 65536) 0b0011 0 ∧ t.cpl = 0#2 ∧
      t.reg32 4#3 = s.sysenterEsp ∧ (∀ k : RegNum, k ≠ 4#3 → t.reg32 k = s.reg32 k) ∧ t.eip = s.sysenterEip) ∧
  ∀ s t : State, exec .sysenter s = .next t ∨ exec .sysexit s = .next t →
    t.cs.byteLimit = 0xFFFFFFFF ∧ t.ss.byteLimit = 0xFFFFFFFF

/-- With the facility, in protected mode at CPL 0 and with a nonzero SYSENTER_CS_MSR, SYSEXIT completes: CS and SS are
the flat ring 3 segments with selectors M + 16 and M + 24 and RPL 3, CPL is 3, ESP comes from ECX and EIP from EDX;
no flag, no other register, no memory byte and no other system state changes. The 4 GB byte limit is the reading of
a conflict that C5 makes (log entry 33); the 16-bit MSR and the sums kept to 16 bits are D10 and U14 (log entry 18).
(49_sub_sysenter_sysexit.md R423; 49_sub_sysenter_sysexit.md R424; 49_sub_sysenter_sysexit.md R425, R427;
49_sub_sysenter_sysexit.md R411; 60_exceptions.md R470; 90_conflicts.md C5; 92_eei_decisions.md D10;
93_implementation_defined.md U13, U14.) -/
def Obligations.SysexitCompletes : Prop :=
  ∀ s : State, facility s.cfg → s.mode = .protectedMode → s.cpl = 0#2 → s.sysenterCs ≠ 0#16 →
    let m := s.sysenterCs.toNat
    ∃ t, exec .sysexit s = .next t ∧ systemKept s t ∧ memKept s t ∧ t.intShadow = false ∧ t.flags = s.flags ∧
      flat t.cs ((m + 16) % 65536 / 4 * 4 + 3) 0b1011 3 ∧ flat t.ss ((m + 24) % 65536 / 4 * 4 + 3) 0b0011 3 ∧
      t.cpl = 3#2 ∧ t.reg32 4#3 = s.reg32 1#3 ∧ (∀ k : RegNum, k ≠ 4#3 → t.reg32 k = s.reg32 k) ∧
      t.eip = s.reg32 2#3

/-- Without the facility both raise #UD in every state; with it SYSENTER raises #GP(0) in real-address mode or with a
zero MSR, and SYSEXIT besides in virtual-8086 mode and at any CPL but 0; an MSR of 1 to 3 passes the test: SYSENTER
outside real-address mode, and SYSEXIT in protected mode at CPL 0, complete. #UD is the spec's own decision (D17;
log entry 22), and so is the test as written (U13; log entry 18). (49_sub_sysenter_sysexit.md R407, R409, R413;
49_sub_sysenter_sysexit.md R422, R424; 92_eei_decisions.md D17; 93_implementation_defined.md U13.) -/
def Obligations.FastCallChecks : Prop :=
  ∀ s : State,
    (¬ facility s.cfg → exec .sysenter s = .fault (.exception .ud) ∧ exec .sysexit s = .fault (.exception .ud)) ∧
    (facility s.cfg → s.pe = false ∨ s.sysenterCs = 0#16 → exec .sysenter s = .fault (.exception (.gp (some 0)))) ∧
    (facility s.cfg → s.mode ≠ .protectedMode ∨ s.sysenterCs = 0#16 ∨ s.cpl ≠ 0#2 →
      exec .sysexit s = .fault (.exception (.gp (some 0)))) ∧
    (facility s.cfg → s.sysenterCs ∈ [1#16, 2#16, 3#16] →
      (s.pe = true → ∃ t, exec .sysenter s = .next t) ∧
      (s.mode = .protectedMode → s.cpl = 0#2 → ∃ t, exec .sysexit s = .next t))

/-- On a processor that has them, SGDT and SIDT with a register operand raise #UD whatever the state; SLDT and STR
outside protected mode raise #UD for register and memory operands alike, whatever the operand access would raise.
That SGDT and SIDT are refused on the i8086 before this is log entry 16. (30_encoding.md R115; 45_sgdt_sidt.md R285;
47_sldt_smsw.md R329; 48_stc_std_sti_stos_str.md R377; 60_exceptions.md R445.) -/
def Obligations.UndefinedOpcodes : Prop :=
  ∀ (s : State) (osz : Size) (n : RegNum) (dst : RM),
    (s.cfg.procGen ≠ .i8086 → exec (.sgdt osz (.reg n)) s = .fault (.exception .ud) ∧
      exec (.sidt osz (.reg n)) s = .fault (.exception .ud)) ∧
    (s.mode ≠ .protectedMode → exec (.sldtRm16 dst) s = .fault (.exception .ud) ∧
      exec (.strRm16 osz dst) s = .fault (.exception .ud) ∧
      (s.cfg.procGen.has32 = true → exec (.sldtRm32 dst) s = .fault (.exception .ud)))

/-- An instruction answers the refusal no32BitOperands exactly when it is a row with a 32-bit operand and the processor
is an i8086 or i286; the refusal noDescriptorTables exactly for SGDT and SIDT on the i8086; and no other refusal.
The refusals are the spec's own decisions D2 and D3. That SMSW r32/m16 and STR with OperandSize 32 are not among
them is the model's choice (log entry 15, after T7 and T10), and so is that a refusal comes before the #UD of a
register operand or of a mode (log entries 15 and 16). (92_eei_decisions.md D2, D3; 93_implementation_defined.md
U10, U23; 95_test_vectors.md T7, T10.) -/
def Obligations.OldProcessorRefusals : Prop :=
  ∀ (i : Instr) (s : State) (r : Refusal), exec i s = .refused r ↔
    (r = .no32BitOperands ∧ operand32 i = true ∧ (s.cfg.procGen = .i8086 ∨ s.cfg.procGen = .i286)) ∨
    (r = .noDescriptorTables ∧ (∃ osz dst, i = .sgdt osz dst ∨ i = .sidt osz dst) ∧ s.cfg.procGen = .i8086)

/-- Whenever an instruction completes, these registers, the processor constants and what is still to come at boundaries
are as before. (10_state.md R45 to R51; 45_sgdt_sidt.md R280; 47_sldt_smsw.md R335; 49_sub_sysenter_sysexit.md R406,
R421; 60_exceptions.md R477.) -/
def Obligations.SystemStateNeverWritten : Prop :=
  ∀ (i : Instr) (s t : State), exec i s = .next t → systemKept s t

/-- Whenever an instruction completes: PE is unchanged; if it is neither SYSENTER nor SYSEXIT then CS, SS, CPL, EIP and
VM are unchanged; SYSENTER alone lowers CPL, to 0, and only to the entry point in SYSENTER_EIP_MSR; SYSEXIT runs
only at CPL 0 and leaves CPL 3. (60_exceptions.md R467, R468, R469, R471; 10_state.md R28;
49_sub_sysenter_sysexit.md R408, R423.) -/
def Obligations.RingChanges : Prop :=
  ∀ (i : Instr) (s t : State), exec i s = .next t →
    t.pe = s.pe ∧
    (i ≠ .sysenter → i ≠ .sysexit → ringKept s t ∧ t.flags.vm = s.flags.vm) ∧
    (t.cpl.toNat < s.cpl.toNat → i = .sysenter ∧ t.cpl = 0#2 ∧ t.eip = s.sysenterEip) ∧
    (i = .sysexit → s.cpl = 0#2 ∧ s.mode = .protectedMode ∧ t.cpl = 3#2 ∧ t.flags = s.flags)

/-- In every state bits 1, 3 and 5 of EFLAGS read 1, 0 and 0. Whenever an instruction completes: TF, IOPL, NT, RF, AC,
VIF, VIP and ID are unchanged, DF once set stays set and is set only by STD, IF changes only by STI (to 1) and
SYSENTER (to 0), VM only by SYSENTER (to 0). (10_state.md R33, R37; 48_stc_std_sti_stos_str.md R350;
60_exceptions.md R461, R472.) -/
def Obligations.FlagDiscipline : Prop :=
  (∀ f : Eflags, f.toWord.getLsbD 1 = true ∧ f.toWord.getLsbD 3 = false ∧ f.toWord.getLsbD 5 = false) ∧
  ∀ (i : Instr) (s t : State), exec i s = .next t →
    t.flags.tf = s.flags.tf ∧ t.flags.iopl = s.flags.iopl ∧ t.flags.nt = s.flags.nt ∧ t.flags.rf = s.flags.rf ∧
    t.flags.ac = s.flags.ac ∧ t.flags.vif = s.flags.vif ∧ t.flags.vip = s.flags.vip ∧ t.flags.idf = s.flags.idf ∧
    t.flags.df = (s.flags.df || i == .std) ∧
    t.flags.ifl = ((s.flags.ifl || i == .sti) && i != .sysenter) ∧
    t.flags.vm = (s.flags.vm && i != .sysenter)

/-- Where such an instruction completes, below, above, equal, less and greater hold exactly when the destination (or
accumulator) has that relation to the source, as unsigned or as signed numbers. (44_setcc.md R272; 43_scas.md R229;
49_sub_sysenter_sysexit.md R403.) -/
def Obligations.RelationsAfterSubtraction : Prop :=
  ∀ (i : Instr) (s t : State), exec i s = .next t →
    (∀ r, subRow i = some r → (r.carry = true → s.flags.cf = false) →
      let a := readRm s r.w r.dst
      let b := r.src.value s
      (condition 2 t.flags ↔ a.toNat < b.toNat) ∧ (condition 7 t.flags ↔ b.toNat < a.toNat) ∧
      (condition 4 t.flags ↔ a = b) ∧ (condition 12 t.flags ↔ a.toInt < b.toInt) ∧
      (condition 15 t.flags ↔ b.toInt < a.toInt)) ∧
    (∀ w asz, scasRow i = some (w, asz) →
      let a := s.readReg w 0#3
      let b := s.readLoc w (stringOperand s asz)
      (condition 2 t.flags ↔ a.toNat < b.toNat) ∧ (condition 7 t.flags ↔ b.toNat < a.toNat) ∧
      (condition 4 t.flags ↔ a = b) ∧ (condition 12 t.flags ↔ a.toInt < b.toInt) ∧
      (condition 15 t.flags ↔ b.toInt < a.toInt))

/-- With A in two registers and B in two others (the high half of B not being the low half of A), the pair completes and
leaves (A - B) mod 2^64, CF the unsigned borrow of the 64-bit subtraction, OF and SF those of its signed result, and
ZF and PF those of the high half. (42_sbb.md R208; 42_sbb.md R190.) -/
def Obligations.MultiwordSubtraction : Prop :=
  ∀ (s : State) (a1 a0 b1 b0 : RegNum), s.cfg.procGen.has32 = true → a1 ≠ a0 → b1 ≠ a0 →
    let a : BitVec 64 := s.reg32 a1 ++ s.reg32 a0
    let b : BitVec 64 := s.reg32 b1 ++ s.reg32 b0
    ∃ t u, exec (.subRm32R32 (.reg a0) b0) s = .next t ∧ exec (.sbbRm32R32 (.reg a1) b1) t = .next u ∧
      u.reg32 a1 ++ u.reg32 a0 = a - b ∧
      (u.flags.cf = true ↔ a.toNat < b.toNat) ∧ (u.flags.ofl = true ↔ signedBorrow a b false) ∧
      u.flags.sf = (a - b).getLsbD 63 ∧ resultFlags u.flags (u.reg32 a1)

/-- With the number in two different 32-bit registers, and one count for both, an imm8 or CL with neither register ECX,
of 1 to 31 once masked: each pair of register forms completes and leaves the 64-bit number shifted by the count; the
second instruction leaves CF the last bit shifted out. SAL is covered with SHL; memory forms are not.
(46_shld_shrd.md R317.) -/
def Obligations.MultiwordShift : Prop :=
  ∀ (s : State) (hi lo : RegNum) (count : Count) (i j : Instr), s.cfg.procGen.has32 = true → hi ≠ lo →
    (count = .cl → hi ≠ 1#3 ∧ lo ≠ 1#3) → count.raw s % 32 ≠ 0 →
    let x : BitVec 64 := s.reg32 hi ++ s.reg32 lo
    let c := count.raw s % 32
    (dshiftRow i = some ⟨.shld, .w32, .reg hi, lo, count⟩ → shiftRow j = some ⟨.shl, .w32, .reg lo, count⟩ →
      ∃ t u, exec i s = .next t ∧ exec j t = .next u ∧ u.reg32 hi ++ u.reg32 lo = x <<< c ∧
        u.flags.cf = (s.reg32 lo).getLsbD (32 - c)) ∧
    (dshiftRow i = some ⟨.shrd, .w32, .reg lo, hi, count⟩ → shiftRow j = some ⟨.shr, .w32, .reg hi, count⟩ →
      ∃ t u, exec i s = .next t ∧ exec j t = .next u ∧ u.reg32 hi ++ u.reg32 lo = x >>> c ∧
        u.flags.cf = (s.reg32 hi).getLsbD (c - 1)) ∧
    (dshiftRow i = some ⟨.shrd, .w32, .reg lo, hi, count⟩ → shiftRow j = some ⟨.sar, .w32, .reg hi, count⟩ →
      ∃ t u, exec i s = .next t ∧ exec j t = .next u ∧ u.reg32 hi ++ u.reg32 lo = x.sshiftRight c ∧
        u.flags.cf = (s.reg32 hi).getLsbD (c - 1))

/-- For any SUB row and any SBB row with the same width, destination and source, in any state with CF 0, the two answers
are equal, faults and refusals included. (49_sub_sysenter_sysexit.md R403; 42_sbb.md R191.) -/
def Obligations.SubIsSbbWithoutBorrow : Prop :=
  ∀ (i j : Instr) (s : State) (w : Width) (dst : RM) (src : Src w), subRow i = some ⟨false, w, dst, src⟩ →
    subRow j = some ⟨true, w, dst, src⟩ → s.flags.cf = false → exec i s = exec j s

/-- For every row of SUB or SBB whose destination and source are one register, where it completes: the result is 0 - cin
and CF, OF, SF, ZF, AF, PF are cin, 0, cin, not cin, cin, 1, with cin the old CF for SBB and 0 for SUB. (42_sbb.md
R209; 49_sub_sysenter_sysexit.md R402.) -/
def Obligations.SameRegisterSubtraction : Prop :=
  ∀ (i : Instr) (s : State) (carry : Bool) (w : Width) (n : RegNum),
    subRow i = some ⟨carry, w, .reg n, .rm (.reg n)⟩ → Available s w →
    let cin := carry && s.flags.cf
    ∃ t, exec i s = .next t ∧ t.readReg w n = (if cin then BitVec.allOnes w.bits else 0#w.bits) ∧
      t.flags.cf = cin ∧ t.flags.ofl = false ∧ t.flags.sf = cin ∧ t.flags.zf = !cin ∧ t.flags.af = cin ∧
      t.flags.pf = true

/-- For every row whose destination and source are one register, with a masked count from 1 below the width, the
register is rotated left (SHLD) or right (SHRD) by the count. (46_shld_shrd.md R316.) -/
def Obligations.SameRegisterRotates : Prop :=
  ∀ (i : Instr) (s : State) (op : DoubleShiftOp) (w : Width) (n : RegNum) (count : Count),
    dshiftRow i = some ⟨op, w, .reg n, n, count⟩ → Available s w → 1 ≤ count.raw s % 32 → count.raw s % 32 < w.bits →
    ∃ t, exec i s = .next t ∧
      t.readReg w n = match op with
        | .shld => (s.readReg w n).rotateLeft (count.raw s % 32)
        | .shrd => (s.readReg w n).rotateRight (count.raw s % 32)

/-- In real-address mode every instruction answers the same with any other page-fault answers in the state: the same
fault or refusal, or the same next state but for those answers themselves. (20_memory.md R74; 60_exceptions.md
R451.) -/
def Obligations.RealModeIgnoresPaging : Prop :=
  ∀ (i : Instr) (s : State) (p : List PageFaultEntry), s.mode = .realAddress →
    exec i (s.withPageFaults p) =
      match exec i s with
      | .next t => .next (t.withPageFaults p)
      | .fault f => .fault f
      | .refused r => .refused r

/-- For every state with canonical memory, VM only with PE, CPL 3 in virtual-8086 mode, real-address segments outside
protected mode, EIP below 2^16 in a 16-bit code segment and IntShadow only with IF: if step answers a next state, it
has all of these too. (70_reset_and_hazards.md R481; 10_state.md R42, R54; 20_memory.md R64; 92_eei_decisions.md
D31.) -/
def Obligations.StepKeepsInvariant : Prop :=
  ∀ s t : State, s.inv → step s = .next t → t.inv

/-- State.reset meets every condition of R481 and the invariant, in real-address mode; the values are the model choice
of log entries 3 and 4, the spec gives none. State.launch holds the two further conditions of log entry 30.
(70_reset_and_hazards.md R480, R481.) -/
def Obligations.ResetIsProper : Prop :=
  State.reset.launch ∧ State.reset.inv ∧ State.reset.mode = .realAddress

/-- A state that meets State.launch meets the invariant, and where every step keeps the invariant (StepKeepsInvariant)
every state reached from it does. State.launch is R481 and U27 with two conditions that are the model's choice, log
entry 30: EIP below 2^16 where CS.D is 0, and memory in canonical form; without them the first clause would be false
of R481's launch states. (70_reset_and_hazards.md R481; 93_implementation_defined.md U27; 10_state.md R27;
92_eei_decisions.md D31.) -/
def Obligations.LaunchHasInvariant : Prop :=
  (∀ s : State, s.launch → s.inv) ∧
  ((∀ s t : State, s.inv → step s = .next t → t.inv) → ∀ (k : Nat) (s t : State), s.launch → reaches k s t → t.inv)

/-- A step that answers a next state raises the count of draws, by one for the bytes fetched and by what the instruction
takes. An instruction takes exactly drawsTaken: three by SAL, SAR, SHL and SHR with a nonzero masked count, two by
SHLD and SHRD, seven at or past the width; one by SUB, SBB or SCAS that reads memory; one by SLDT and SMSW to a
32-bit register whose high half is undefined; none else. A byte nothing has written reads as a free value of the
count and the address. The count is the model's own field, and so is how many draws an instruction takes (log
entries 2 and 5): which draw each undefined value is, UndefinedResultsAreDraws says. (00_scope.md R18; 20_memory.md
R79; 41_shift.md R146, R147; 46_shld_shrd.md R299, R301; 47_sldt_smsw.md R328, R339; 92_eei_decisions.md D9;
93_implementation_defined.md U1 to U7, U30.) -/
def Obligations.FreshDrawPerUse : Prop :=
  (∀ s t : State, step s = .next t → ∃ i len, fetch (passBoundary s) = .next (i, len) ∧
    step s = exec i (afterFetch (passBoundary s) len) ∧
    t.draws = s.draws + 1 + drawsTaken (afterFetch (passBoundary s) len) i) ∧
  (∀ (i : Instr) (s t : State), exec i s = .next t → t.draws = s.draws + drawsTaken s i) ∧
  ∀ (s : State) (a : Word32), s.byteAt a = (s.heldAt a).getD (Config.unpopulatedByte s.draws a.toNat)

/-- Where an instruction that completes leaves a value undefined, the value is a free value numbered from the count of
draws on, two values of one instruction by two numbers, all below the count it leaves: AF, OF and CF of a shift are
the draws 0, 1 and 2; AF and OF of a double shift 0 and 1; past its width the destination is draw 0 and CF, OF, SF,
ZF, AF, PF are 1 to 6; the high half after SLDT and SMSW is draw 0. Which number goes to which value is the model's
choice (log entry 2), and nothing is said of what any draw is. (00_scope.md R18; 41_shift.md R146, R147;
46_shld_shrd.md R299, R301; 47_sldt_smsw.md R328, R339; 93_implementation_defined.md U1 to U7.) -/
def Obligations.UndefinedResultsAreDraws : Prop :=
  ∀ (i : Instr) (s t : State), exec i s = .next t →
    (∀ r, shiftRow i = some r → shiftCount s r.count ≠ 0 → t.draws = s.draws + 3 ∧ t.flags.af = s.drawBit 0 ∧
      (shiftCount s r.count ≠ 1 → t.flags.ofl = s.drawBit 1) ∧
      (r.op ≠ .sar → r.w.bits ≤ shiftCount s r.count → t.flags.cf = s.drawBit 2)) ∧
    (∀ r, dshiftRow i = some r → 0 < r.count.raw s % 32 → r.count.raw s % 32 < r.w.bits →
      t.draws = s.draws + 2 ∧ t.flags.af = s.drawBit 0 ∧ (r.count.raw s % 32 ≠ 1 → t.flags.ofl = s.drawBit 1)) ∧
    (∀ r, dshiftRow i = some r → r.w.bits ≤ r.count.raw s % 32 →
      t.draws = s.draws + 7 ∧ dstHolds s t r.w r.dst (s.draw r.w.bits 0) ∧ t.flags.cf = s.drawBit 1 ∧
      t.flags.ofl = s.drawBit 2 ∧ t.flags.sf = s.drawBit 3 ∧ t.flags.zf = s.drawBit 4 ∧ t.flags.af = s.drawBit 5 ∧
      t.flags.pf = s.drawBit 6) ∧
    (∀ n, i = .sldtRm32 (.reg n) → s.cfg.procGen ∈ sldtOpen →
      t.draws = s.draws + 1 ∧ t.reg32 n = s.draw 16 0 ++ s.ldtr) ∧
    (∀ n, i = .smswR32M16 (.reg n) → t.draws = s.draws + 1 ∧ t.reg32 n = s.draw 16 0 ++ s.cr0.extractLsb' 0 16) ∧
    (∀ w j, s.draw w j = Config.undefinedBits w (s.draws + j)) ∧
    ∀ j, s.drawBit j = (Config.undefinedBits 1 (s.draws + j)).getLsbD 0
end

