-- ==== Sys2Proof/Laws/State.lean ====
section
/-! SUPPORT. What each one-field update of the state reads as, field by field, and through the accessors. -/

namespace Sys2Proof.Machine

/-! ### `withGpr` -/

@[simp] theorem State.withGpr_cfg (s : State) (v : Vector Word32 8) : (s.withGpr v).cfg = s.cfg := rfl
@[simp] theorem State.withGpr_gpr (s : State) (v : Vector Word32 8) : (s.withGpr v).gpr = v := rfl
@[simp] theorem State.withGpr_eip (s : State) (v : Vector Word32 8) : (s.withGpr v).eip = s.eip := rfl
@[simp] theorem State.withGpr_flags (s : State) (v : Vector Word32 8) : (s.withGpr v).flags = s.flags := rfl
@[simp] theorem State.withGpr_cs (s : State) (v : Vector Word32 8) : (s.withGpr v).cs = s.cs := rfl
@[simp] theorem State.withGpr_ds (s : State) (v : Vector Word32 8) : (s.withGpr v).ds = s.ds := rfl
@[simp] theorem State.withGpr_es (s : State) (v : Vector Word32 8) : (s.withGpr v).es = s.es := rfl
@[simp] theorem State.withGpr_fs (s : State) (v : Vector Word32 8) : (s.withGpr v).fs = s.fs := rfl
@[simp] theorem State.withGpr_gs (s : State) (v : Vector Word32 8) : (s.withGpr v).gs = s.gs := rfl
@[simp] theorem State.withGpr_ss (s : State) (v : Vector Word32 8) : (s.withGpr v).ss = s.ss := rfl
@[simp] theorem State.withGpr_cpl (s : State) (v : Vector Word32 8) : (s.withGpr v).cpl = s.cpl := rfl
@[simp] theorem State.withGpr_gdtr (s : State) (v : Vector Word32 8) : (s.withGpr v).gdtr = s.gdtr := rfl
@[simp] theorem State.withGpr_idtr (s : State) (v : Vector Word32 8) : (s.withGpr v).idtr = s.idtr := rfl
@[simp] theorem State.withGpr_ldtr (s : State) (v : Vector Word32 8) : (s.withGpr v).ldtr = s.ldtr := rfl
@[simp] theorem State.withGpr_tr (s : State) (v : Vector Word32 8) : (s.withGpr v).tr = s.tr := rfl
@[simp] theorem State.withGpr_cr0 (s : State) (v : Vector Word32 8) : (s.withGpr v).cr0 = s.cr0 := rfl
@[simp] theorem State.withGpr_sysenterCs (s : State) (v : Vector Word32 8) : (s.withGpr v).sysenterCs = s.sysenterCs := rfl
@[simp] theorem State.withGpr_sysenterEsp (s : State) (v : Vector Word32 8) : (s.withGpr v).sysenterEsp = s.sysenterEsp := rfl
@[simp] theorem State.withGpr_sysenterEip (s : State) (v : Vector Word32 8) : (s.withGpr v).sysenterEip = s.sysenterEip := rfl
@[simp] theorem State.withGpr_intShadow (s : State) (v : Vector Word32 8) : (s.withGpr v).intShadow = s.intShadow := rfl
@[simp] theorem State.withGpr_mem (s : State) (v : Vector Word32 8) : (s.withGpr v).mem = s.mem := rfl
@[simp] theorem State.withGpr_pageFaults (s : State) (v : Vector Word32 8) : (s.withGpr v).pageFaults = s.pageFaults := rfl
@[simp] theorem State.withGpr_inputs (s : State) (v : Vector Word32 8) : (s.withGpr v).inputs = s.inputs := rfl
@[simp] theorem State.withGpr_draws (s : State) (v : Vector Word32 8) : (s.withGpr v).draws = s.draws := rfl
@[simp] theorem State.withGpr_heldAt (s : State) (v : Vector Word32 8) (a : Word32) : (s.withGpr v).heldAt a = s.heldAt a := rfl
@[simp] theorem State.withGpr_byteAt (s : State) (v : Vector Word32 8) (a : Word32) : (s.withGpr v).byteAt a = s.byteAt a := rfl
@[simp] theorem State.withGpr_seg (s : State) (v : Vector Word32 8) (n : SegName) : (s.withGpr v).seg n = s.seg n := by cases n <;> rfl
@[simp] theorem State.withGpr_pe (s : State) (v : Vector Word32 8) : (s.withGpr v).pe = s.pe := rfl
@[simp] theorem State.withGpr_mode (s : State) (v : Vector Word32 8) : (s.withGpr v).mode = s.mode := rfl
@[simp] theorem State.withGpr_lin (s : State) (v : Vector Word32 8) (l : Loc) (k : Nat) : l.lin (s.withGpr v) k = l.lin s k := by
  simp only [Loc.lin, State.withGpr_seg]

/-! ### `withEip` -/

@[simp] theorem State.withEip_cfg (s : State) (v : Word32) : (s.withEip v).cfg = s.cfg := rfl
@[simp] theorem State.withEip_gpr (s : State) (v : Word32) : (s.withEip v).gpr = s.gpr := rfl
@[simp] theorem State.withEip_eip (s : State) (v : Word32) : (s.withEip v).eip = v := rfl
@[simp] theorem State.withEip_flags (s : State) (v : Word32) : (s.withEip v).flags = s.flags := rfl
@[simp] theorem State.withEip_cs (s : State) (v : Word32) : (s.withEip v).cs = s.cs := rfl
@[simp] theorem State.withEip_ds (s : State) (v : Word32) : (s.withEip v).ds = s.ds := rfl
@[simp] theorem State.withEip_es (s : State) (v : Word32) : (s.withEip v).es = s.es := rfl
@[simp] theorem State.withEip_fs (s : State) (v : Word32) : (s.withEip v).fs = s.fs := rfl
@[simp] theorem State.withEip_gs (s : State) (v : Word32) : (s.withEip v).gs = s.gs := rfl
@[simp] theorem State.withEip_ss (s : State) (v : Word32) : (s.withEip v).ss = s.ss := rfl
@[simp] theorem State.withEip_cpl (s : State) (v : Word32) : (s.withEip v).cpl = s.cpl := rfl
@[simp] theorem State.withEip_gdtr (s : State) (v : Word32) : (s.withEip v).gdtr = s.gdtr := rfl
@[simp] theorem State.withEip_idtr (s : State) (v : Word32) : (s.withEip v).idtr = s.idtr := rfl
@[simp] theorem State.withEip_ldtr (s : State) (v : Word32) : (s.withEip v).ldtr = s.ldtr := rfl
@[simp] theorem State.withEip_tr (s : State) (v : Word32) : (s.withEip v).tr = s.tr := rfl
@[simp] theorem State.withEip_cr0 (s : State) (v : Word32) : (s.withEip v).cr0 = s.cr0 := rfl
@[simp] theorem State.withEip_sysenterCs (s : State) (v : Word32) : (s.withEip v).sysenterCs = s.sysenterCs := rfl
@[simp] theorem State.withEip_sysenterEsp (s : State) (v : Word32) : (s.withEip v).sysenterEsp = s.sysenterEsp := rfl
@[simp] theorem State.withEip_sysenterEip (s : State) (v : Word32) : (s.withEip v).sysenterEip = s.sysenterEip := rfl
@[simp] theorem State.withEip_intShadow (s : State) (v : Word32) : (s.withEip v).intShadow = s.intShadow := rfl
@[simp] theorem State.withEip_mem (s : State) (v : Word32) : (s.withEip v).mem = s.mem := rfl
@[simp] theorem State.withEip_pageFaults (s : State) (v : Word32) : (s.withEip v).pageFaults = s.pageFaults := rfl
@[simp] theorem State.withEip_inputs (s : State) (v : Word32) : (s.withEip v).inputs = s.inputs := rfl
@[simp] theorem State.withEip_draws (s : State) (v : Word32) : (s.withEip v).draws = s.draws := rfl
@[simp] theorem State.withEip_reg32 (s : State) (v : Word32) (n : RegNum) : (s.withEip v).reg32 n = s.reg32 n := rfl
@[simp] theorem State.withEip_readReg (s : State) (v : Word32) (w : Width) (n : RegNum) :
    (s.withEip v).readReg w n = s.readReg w n := rfl
@[simp] theorem State.withEip_heldAt (s : State) (v : Word32) (a : Word32) : (s.withEip v).heldAt a = s.heldAt a := rfl
@[simp] theorem State.withEip_byteAt (s : State) (v : Word32) (a : Word32) : (s.withEip v).byteAt a = s.byteAt a := rfl
@[simp] theorem State.withEip_seg (s : State) (v : Word32) (n : SegName) : (s.withEip v).seg n = s.seg n := by cases n <;> rfl
@[simp] theorem State.withEip_pe (s : State) (v : Word32) : (s.withEip v).pe = s.pe := rfl
@[simp] theorem State.withEip_mode (s : State) (v : Word32) : (s.withEip v).mode = s.mode := rfl
@[simp] theorem State.withEip_lin (s : State) (v : Word32) (l : Loc) (k : Nat) : l.lin (s.withEip v) k = l.lin s k := by
  simp only [Loc.lin, State.withEip_seg]

/-! ### `withFlags` -/

@[simp] theorem State.withFlags_cfg (s : State) (v : Eflags) : (s.withFlags v).cfg = s.cfg := rfl
@[simp] theorem State.withFlags_gpr (s : State) (v : Eflags) : (s.withFlags v).gpr = s.gpr := rfl
@[simp] theorem State.withFlags_eip (s : State) (v : Eflags) : (s.withFlags v).eip = s.eip := rfl
@[simp] theorem State.withFlags_flags (s : State) (v : Eflags) : (s.withFlags v).flags = v := rfl
@[simp] theorem State.withFlags_cs (s : State) (v : Eflags) : (s.withFlags v).cs = s.cs := rfl
@[simp] theorem State.withFlags_ds (s : State) (v : Eflags) : (s.withFlags v).ds = s.ds := rfl
@[simp] theorem State.withFlags_es (s : State) (v : Eflags) : (s.withFlags v).es = s.es := rfl
@[simp] theorem State.withFlags_fs (s : State) (v : Eflags) : (s.withFlags v).fs = s.fs := rfl
@[simp] theorem State.withFlags_gs (s : State) (v : Eflags) : (s.withFlags v).gs = s.gs := rfl
@[simp] theorem State.withFlags_ss (s : State) (v : Eflags) : (s.withFlags v).ss = s.ss := rfl
@[simp] theorem State.withFlags_cpl (s : State) (v : Eflags) : (s.withFlags v).cpl = s.cpl := rfl
@[simp] theorem State.withFlags_gdtr (s : State) (v : Eflags) : (s.withFlags v).gdtr = s.gdtr := rfl
@[simp] theorem State.withFlags_idtr (s : State) (v : Eflags) : (s.withFlags v).idtr = s.idtr := rfl
@[simp] theorem State.withFlags_ldtr (s : State) (v : Eflags) : (s.withFlags v).ldtr = s.ldtr := rfl
@[simp] theorem State.withFlags_tr (s : State) (v : Eflags) : (s.withFlags v).tr = s.tr := rfl
@[simp] theorem State.withFlags_cr0 (s : State) (v : Eflags) : (s.withFlags v).cr0 = s.cr0 := rfl
@[simp] theorem State.withFlags_sysenterCs (s : State) (v : Eflags) : (s.withFlags v).sysenterCs = s.sysenterCs := rfl
@[simp] theorem State.withFlags_sysenterEsp (s : State) (v : Eflags) : (s.withFlags v).sysenterEsp = s.sysenterEsp := rfl
@[simp] theorem State.withFlags_sysenterEip (s : State) (v : Eflags) : (s.withFlags v).sysenterEip = s.sysenterEip := rfl
@[simp] theorem State.withFlags_intShadow (s : State) (v : Eflags) : (s.withFlags v).intShadow = s.intShadow := rfl
@[simp] theorem State.withFlags_mem (s : State) (v : Eflags) : (s.withFlags v).mem = s.mem := rfl
@[simp] theorem State.withFlags_pageFaults (s : State) (v : Eflags) : (s.withFlags v).pageFaults = s.pageFaults := rfl
@[simp] theorem State.withFlags_inputs (s : State) (v : Eflags) : (s.withFlags v).inputs = s.inputs := rfl
@[simp] theorem State.withFlags_draws (s : State) (v : Eflags) : (s.withFlags v).draws = s.draws := rfl
@[simp] theorem State.withFlags_reg32 (s : State) (v : Eflags) (n : RegNum) : (s.withFlags v).reg32 n = s.reg32 n := rfl
@[simp] theorem State.withFlags_readReg (s : State) (v : Eflags) (w : Width) (n : RegNum) :
    (s.withFlags v).readReg w n = s.readReg w n := rfl
@[simp] theorem State.withFlags_heldAt (s : State) (v : Eflags) (a : Word32) : (s.withFlags v).heldAt a = s.heldAt a := rfl
@[simp] theorem State.withFlags_byteAt (s : State) (v : Eflags) (a : Word32) : (s.withFlags v).byteAt a = s.byteAt a := rfl
@[simp] theorem State.withFlags_seg (s : State) (v : Eflags) (n : SegName) : (s.withFlags v).seg n = s.seg n := by cases n <;> rfl
@[simp] theorem State.withFlags_pe (s : State) (v : Eflags) : (s.withFlags v).pe = s.pe := rfl
@[simp] theorem State.withFlags_lin (s : State) (v : Eflags) (l : Loc) (k : Nat) : l.lin (s.withFlags v) k = l.lin s k := by
  simp only [Loc.lin, State.withFlags_seg]

/-! ### `withIntShadow` -/

@[simp] theorem State.withIntShadow_cfg (s : State) (v : Bool) : (s.withIntShadow v).cfg = s.cfg := rfl
@[simp] theorem State.withIntShadow_gpr (s : State) (v : Bool) : (s.withIntShadow v).gpr = s.gpr := rfl
@[simp] theorem State.withIntShadow_eip (s : State) (v : Bool) : (s.withIntShadow v).eip = s.eip := rfl
@[simp] theorem State.withIntShadow_flags (s : State) (v : Bool) : (s.withIntShadow v).flags = s.flags := rfl
@[simp] theorem State.withIntShadow_cs (s : State) (v : Bool) : (s.withIntShadow v).cs = s.cs := rfl
@[simp] theorem State.withIntShadow_ds (s : State) (v : Bool) : (s.withIntShadow v).ds = s.ds := rfl
@[simp] theorem State.withIntShadow_es (s : State) (v : Bool) : (s.withIntShadow v).es = s.es := rfl
@[simp] theorem State.withIntShadow_fs (s : State) (v : Bool) : (s.withIntShadow v).fs = s.fs := rfl
@[simp] theorem State.withIntShadow_gs (s : State) (v : Bool) : (s.withIntShadow v).gs = s.gs := rfl
@[simp] theorem State.withIntShadow_ss (s : State) (v : Bool) : (s.withIntShadow v).ss = s.ss := rfl
@[simp] theorem State.withIntShadow_cpl (s : State) (v : Bool) : (s.withIntShadow v).cpl = s.cpl := rfl
@[simp] theorem State.withIntShadow_gdtr (s : State) (v : Bool) : (s.withIntShadow v).gdtr = s.gdtr := rfl
@[simp] theorem State.withIntShadow_idtr (s : State) (v : Bool) : (s.withIntShadow v).idtr = s.idtr := rfl
@[simp] theorem State.withIntShadow_ldtr (s : State) (v : Bool) : (s.withIntShadow v).ldtr = s.ldtr := rfl
@[simp] theorem State.withIntShadow_tr (s : State) (v : Bool) : (s.withIntShadow v).tr = s.tr := rfl
@[simp] theorem State.withIntShadow_cr0 (s : State) (v : Bool) : (s.withIntShadow v).cr0 = s.cr0 := rfl
@[simp] theorem State.withIntShadow_sysenterCs (s : State) (v : Bool) : (s.withIntShadow v).sysenterCs = s.sysenterCs := rfl
@[simp] theorem State.withIntShadow_sysenterEsp (s : State) (v : Bool) : (s.withIntShadow v).sysenterEsp = s.sysenterEsp := rfl
@[simp] theorem State.withIntShadow_sysenterEip (s : State) (v : Bool) : (s.withIntShadow v).sysenterEip = s.sysenterEip := rfl
@[simp] theorem State.withIntShadow_intShadow (s : State) (v : Bool) : (s.withIntShadow v).intShadow = v := rfl
@[simp] theorem State.withIntShadow_mem (s : State) (v : Bool) : (s.withIntShadow v).mem = s.mem := rfl
@[simp] theorem State.withIntShadow_pageFaults (s : State) (v : Bool) : (s.withIntShadow v).pageFaults = s.pageFaults := rfl
@[simp] theorem State.withIntShadow_inputs (s : State) (v : Bool) : (s.withIntShadow v).inputs = s.inputs := rfl
@[simp] theorem State.withIntShadow_draws (s : State) (v : Bool) : (s.withIntShadow v).draws = s.draws := rfl
@[simp] theorem State.withIntShadow_reg32 (s : State) (v : Bool) (n : RegNum) : (s.withIntShadow v).reg32 n = s.reg32 n := rfl
@[simp] theorem State.withIntShadow_readReg (s : State) (v : Bool) (w : Width) (n : RegNum) :
    (s.withIntShadow v).readReg w n = s.readReg w n := rfl
@[simp] theorem State.withIntShadow_heldAt (s : State) (v : Bool) (a : Word32) : (s.withIntShadow v).heldAt a = s.heldAt a := rfl
@[simp] theorem State.withIntShadow_byteAt (s : State) (v : Bool) (a : Word32) : (s.withIntShadow v).byteAt a = s.byteAt a := rfl
@[simp] theorem State.withIntShadow_seg (s : State) (v : Bool) (n : SegName) : (s.withIntShadow v).seg n = s.seg n := by cases n <;> rfl
@[simp] theorem State.withIntShadow_pe (s : State) (v : Bool) : (s.withIntShadow v).pe = s.pe := rfl
@[simp] theorem State.withIntShadow_mode (s : State) (v : Bool) : (s.withIntShadow v).mode = s.mode := rfl
@[simp] theorem State.withIntShadow_lin (s : State) (v : Bool) (l : Loc) (k : Nat) : l.lin (s.withIntShadow v) k = l.lin s k := by
  simp only [Loc.lin, State.withIntShadow_seg]

/-! ### `withMem` -/

@[simp] theorem State.withMem_cfg (s : State) (v : List Host.Cell) : (s.withMem v).cfg = s.cfg := rfl
@[simp] theorem State.withMem_gpr (s : State) (v : List Host.Cell) : (s.withMem v).gpr = s.gpr := rfl
@[simp] theorem State.withMem_eip (s : State) (v : List Host.Cell) : (s.withMem v).eip = s.eip := rfl
@[simp] theorem State.withMem_flags (s : State) (v : List Host.Cell) : (s.withMem v).flags = s.flags := rfl
@[simp] theorem State.withMem_cs (s : State) (v : List Host.Cell) : (s.withMem v).cs = s.cs := rfl
@[simp] theorem State.withMem_ds (s : State) (v : List Host.Cell) : (s.withMem v).ds = s.ds := rfl
@[simp] theorem State.withMem_es (s : State) (v : List Host.Cell) : (s.withMem v).es = s.es := rfl
@[simp] theorem State.withMem_fs (s : State) (v : List Host.Cell) : (s.withMem v).fs = s.fs := rfl
@[simp] theorem State.withMem_gs (s : State) (v : List Host.Cell) : (s.withMem v).gs = s.gs := rfl
@[simp] theorem State.withMem_ss (s : State) (v : List Host.Cell) : (s.withMem v).ss = s.ss := rfl
@[simp] theorem State.withMem_cpl (s : State) (v : List Host.Cell) : (s.withMem v).cpl = s.cpl := rfl
@[simp] theorem State.withMem_gdtr (s : State) (v : List Host.Cell) : (s.withMem v).gdtr = s.gdtr := rfl
@[simp] theorem State.withMem_idtr (s : State) (v : List Host.Cell) : (s.withMem v).idtr = s.idtr := rfl
@[simp] theorem State.withMem_ldtr (s : State) (v : List Host.Cell) : (s.withMem v).ldtr = s.ldtr := rfl
@[simp] theorem State.withMem_tr (s : State) (v : List Host.Cell) : (s.withMem v).tr = s.tr := rfl
@[simp] theorem State.withMem_cr0 (s : State) (v : List Host.Cell) : (s.withMem v).cr0 = s.cr0 := rfl
@[simp] theorem State.withMem_sysenterCs (s : State) (v : List Host.Cell) : (s.withMem v).sysenterCs = s.sysenterCs := rfl
@[simp] theorem State.withMem_sysenterEsp (s : State) (v : List Host.Cell) : (s.withMem v).sysenterEsp = s.sysenterEsp := rfl
@[simp] theorem State.withMem_sysenterEip (s : State) (v : List Host.Cell) : (s.withMem v).sysenterEip = s.sysenterEip := rfl
@[simp] theorem State.withMem_intShadow (s : State) (v : List Host.Cell) : (s.withMem v).intShadow = s.intShadow := rfl
@[simp] theorem State.withMem_mem (s : State) (v : List Host.Cell) : (s.withMem v).mem = v := rfl
@[simp] theorem State.withMem_pageFaults (s : State) (v : List Host.Cell) : (s.withMem v).pageFaults = s.pageFaults := rfl
@[simp] theorem State.withMem_inputs (s : State) (v : List Host.Cell) : (s.withMem v).inputs = s.inputs := rfl
@[simp] theorem State.withMem_draws (s : State) (v : List Host.Cell) : (s.withMem v).draws = s.draws := rfl
@[simp] theorem State.withMem_reg32 (s : State) (v : List Host.Cell) (n : RegNum) : (s.withMem v).reg32 n = s.reg32 n := rfl
@[simp] theorem State.withMem_readReg (s : State) (v : List Host.Cell) (w : Width) (n : RegNum) :
    (s.withMem v).readReg w n = s.readReg w n := rfl
@[simp] theorem State.withMem_seg (s : State) (v : List Host.Cell) (n : SegName) : (s.withMem v).seg n = s.seg n := by cases n <;> rfl
@[simp] theorem State.withMem_pe (s : State) (v : List Host.Cell) : (s.withMem v).pe = s.pe := rfl
@[simp] theorem State.withMem_mode (s : State) (v : List Host.Cell) : (s.withMem v).mode = s.mode := rfl
@[simp] theorem State.withMem_lin (s : State) (v : List Host.Cell) (l : Loc) (k : Nat) : l.lin (s.withMem v) k = l.lin s k := by
  simp only [Loc.lin, State.withMem_seg]

/-! ### `withPageFaults` -/

@[simp] theorem State.withPageFaults_cfg (s : State) (v : List PageFaultEntry) : (s.withPageFaults v).cfg = s.cfg := rfl
@[simp] theorem State.withPageFaults_gpr (s : State) (v : List PageFaultEntry) : (s.withPageFaults v).gpr = s.gpr := rfl
@[simp] theorem State.withPageFaults_eip (s : State) (v : List PageFaultEntry) : (s.withPageFaults v).eip = s.eip := rfl
@[simp] theorem State.withPageFaults_flags (s : State) (v : List PageFaultEntry) : (s.withPageFaults v).flags = s.flags := rfl
@[simp] theorem State.withPageFaults_cs (s : State) (v : List PageFaultEntry) : (s.withPageFaults v).cs = s.cs := rfl
@[simp] theorem State.withPageFaults_ds (s : State) (v : List PageFaultEntry) : (s.withPageFaults v).ds = s.ds := rfl
@[simp] theorem State.withPageFaults_es (s : State) (v : List PageFaultEntry) : (s.withPageFaults v).es = s.es := rfl
@[simp] theorem State.withPageFaults_fs (s : State) (v : List PageFaultEntry) : (s.withPageFaults v).fs = s.fs := rfl
@[simp] theorem State.withPageFaults_gs (s : State) (v : List PageFaultEntry) : (s.withPageFaults v).gs = s.gs := rfl
@[simp] theorem State.withPageFaults_ss (s : State) (v : List PageFaultEntry) : (s.withPageFaults v).ss = s.ss := rfl
@[simp] theorem State.withPageFaults_cpl (s : State) (v : List PageFaultEntry) : (s.withPageFaults v).cpl = s.cpl := rfl
@[simp] theorem State.withPageFaults_gdtr (s : State) (v : List PageFaultEntry) : (s.withPageFaults v).gdtr = s.gdtr := rfl
@[simp] theorem State.withPageFaults_idtr (s : State) (v : List PageFaultEntry) : (s.withPageFaults v).idtr = s.idtr := rfl
@[simp] theorem State.withPageFaults_ldtr (s : State) (v : List PageFaultEntry) : (s.withPageFaults v).ldtr = s.ldtr := rfl
@[simp] theorem State.withPageFaults_tr (s : State) (v : List PageFaultEntry) : (s.withPageFaults v).tr = s.tr := rfl
@[simp] theorem State.withPageFaults_cr0 (s : State) (v : List PageFaultEntry) : (s.withPageFaults v).cr0 = s.cr0 := rfl
@[simp] theorem State.withPageFaults_sysenterCs (s : State) (v : List PageFaultEntry) : (s.withPageFaults v).sysenterCs = s.sysenterCs := rfl
@[simp] theorem State.withPageFaults_sysenterEsp (s : State) (v : List PageFaultEntry) : (s.withPageFaults v).sysenterEsp = s.sysenterEsp := rfl
@[simp] theorem State.withPageFaults_sysenterEip (s : State) (v : List PageFaultEntry) : (s.withPageFaults v).sysenterEip = s.sysenterEip := rfl
@[simp] theorem State.withPageFaults_intShadow (s : State) (v : List PageFaultEntry) : (s.withPageFaults v).intShadow = s.intShadow := rfl
@[simp] theorem State.withPageFaults_mem (s : State) (v : List PageFaultEntry) : (s.withPageFaults v).mem = s.mem := rfl
@[simp] theorem State.withPageFaults_pageFaults (s : State) (v : List PageFaultEntry) : (s.withPageFaults v).pageFaults = v := rfl
@[simp] theorem State.withPageFaults_inputs (s : State) (v : List PageFaultEntry) : (s.withPageFaults v).inputs = s.inputs := rfl
@[simp] theorem State.withPageFaults_draws (s : State) (v : List PageFaultEntry) : (s.withPageFaults v).draws = s.draws := rfl
@[simp] theorem State.withPageFaults_reg32 (s : State) (v : List PageFaultEntry) (n : RegNum) : (s.withPageFaults v).reg32 n = s.reg32 n := rfl
@[simp] theorem State.withPageFaults_readReg (s : State) (v : List PageFaultEntry) (w : Width) (n : RegNum) :
    (s.withPageFaults v).readReg w n = s.readReg w n := rfl
@[simp] theorem State.withPageFaults_heldAt (s : State) (v : List PageFaultEntry) (a : Word32) : (s.withPageFaults v).heldAt a = s.heldAt a := rfl
@[simp] theorem State.withPageFaults_byteAt (s : State) (v : List PageFaultEntry) (a : Word32) : (s.withPageFaults v).byteAt a = s.byteAt a := rfl
@[simp] theorem State.withPageFaults_seg (s : State) (v : List PageFaultEntry) (n : SegName) : (s.withPageFaults v).seg n = s.seg n := by cases n <;> rfl
@[simp] theorem State.withPageFaults_pe (s : State) (v : List PageFaultEntry) : (s.withPageFaults v).pe = s.pe := rfl
@[simp] theorem State.withPageFaults_mode (s : State) (v : List PageFaultEntry) : (s.withPageFaults v).mode = s.mode := rfl
@[simp] theorem State.withPageFaults_lin (s : State) (v : List PageFaultEntry) (l : Loc) (k : Nat) : l.lin (s.withPageFaults v) k = l.lin s k := by
  simp only [Loc.lin, State.withPageFaults_seg]

/-! ### `withInputs` -/

@[simp] theorem State.withInputs_cfg (s : State) (v : List BoundaryInput) : (s.withInputs v).cfg = s.cfg := rfl
@[simp] theorem State.withInputs_gpr (s : State) (v : List BoundaryInput) : (s.withInputs v).gpr = s.gpr := rfl
@[simp] theorem State.withInputs_eip (s : State) (v : List BoundaryInput) : (s.withInputs v).eip = s.eip := rfl
@[simp] theorem State.withInputs_flags (s : State) (v : List BoundaryInput) : (s.withInputs v).flags = s.flags := rfl
@[simp] theorem State.withInputs_cs (s : State) (v : List BoundaryInput) : (s.withInputs v).cs = s.cs := rfl
@[simp] theorem State.withInputs_ds (s : State) (v : List BoundaryInput) : (s.withInputs v).ds = s.ds := rfl
@[simp] theorem State.withInputs_es (s : State) (v : List BoundaryInput) : (s.withInputs v).es = s.es := rfl
@[simp] theorem State.withInputs_fs (s : State) (v : List BoundaryInput) : (s.withInputs v).fs = s.fs := rfl
@[simp] theorem State.withInputs_gs (s : State) (v : List BoundaryInput) : (s.withInputs v).gs = s.gs := rfl
@[simp] theorem State.withInputs_ss (s : State) (v : List BoundaryInput) : (s.withInputs v).ss = s.ss := rfl
@[simp] theorem State.withInputs_cpl (s : State) (v : List BoundaryInput) : (s.withInputs v).cpl = s.cpl := rfl
@[simp] theorem State.withInputs_gdtr (s : State) (v : List BoundaryInput) : (s.withInputs v).gdtr = s.gdtr := rfl
@[simp] theorem State.withInputs_idtr (s : State) (v : List BoundaryInput) : (s.withInputs v).idtr = s.idtr := rfl
@[simp] theorem State.withInputs_ldtr (s : State) (v : List BoundaryInput) : (s.withInputs v).ldtr = s.ldtr := rfl
@[simp] theorem State.withInputs_tr (s : State) (v : List BoundaryInput) : (s.withInputs v).tr = s.tr := rfl
@[simp] theorem State.withInputs_cr0 (s : State) (v : List BoundaryInput) : (s.withInputs v).cr0 = s.cr0 := rfl
@[simp] theorem State.withInputs_sysenterCs (s : State) (v : List BoundaryInput) : (s.withInputs v).sysenterCs = s.sysenterCs := rfl
@[simp] theorem State.withInputs_sysenterEsp (s : State) (v : List BoundaryInput) : (s.withInputs v).sysenterEsp = s.sysenterEsp := rfl
@[simp] theorem State.withInputs_sysenterEip (s : State) (v : List BoundaryInput) : (s.withInputs v).sysenterEip = s.sysenterEip := rfl
@[simp] theorem State.withInputs_intShadow (s : State) (v : List BoundaryInput) : (s.withInputs v).intShadow = s.intShadow := rfl
@[simp] theorem State.withInputs_mem (s : State) (v : List BoundaryInput) : (s.withInputs v).mem = s.mem := rfl
@[simp] theorem State.withInputs_pageFaults (s : State) (v : List BoundaryInput) : (s.withInputs v).pageFaults = s.pageFaults := rfl
@[simp] theorem State.withInputs_inputs (s : State) (v : List BoundaryInput) : (s.withInputs v).inputs = v := rfl
@[simp] theorem State.withInputs_draws (s : State) (v : List BoundaryInput) : (s.withInputs v).draws = s.draws := rfl
@[simp] theorem State.withInputs_reg32 (s : State) (v : List BoundaryInput) (n : RegNum) : (s.withInputs v).reg32 n = s.reg32 n := rfl
@[simp] theorem State.withInputs_readReg (s : State) (v : List BoundaryInput) (w : Width) (n : RegNum) :
    (s.withInputs v).readReg w n = s.readReg w n := rfl
@[simp] theorem State.withInputs_heldAt (s : State) (v : List BoundaryInput) (a : Word32) : (s.withInputs v).heldAt a = s.heldAt a := rfl
@[simp] theorem State.withInputs_byteAt (s : State) (v : List BoundaryInput) (a : Word32) : (s.withInputs v).byteAt a = s.byteAt a := rfl
@[simp] theorem State.withInputs_seg (s : State) (v : List BoundaryInput) (n : SegName) : (s.withInputs v).seg n = s.seg n := by cases n <;> rfl
@[simp] theorem State.withInputs_pe (s : State) (v : List BoundaryInput) : (s.withInputs v).pe = s.pe := rfl
@[simp] theorem State.withInputs_mode (s : State) (v : List BoundaryInput) : (s.withInputs v).mode = s.mode := rfl
@[simp] theorem State.withInputs_lin (s : State) (v : List BoundaryInput) (l : Loc) (k : Nat) : l.lin (s.withInputs v) k = l.lin s k := by
  simp only [Loc.lin, State.withInputs_seg]

/-! ### `withDraws` -/

@[simp] theorem State.withDraws_cfg (s : State) (v : Nat) : (s.withDraws v).cfg = s.cfg := rfl
@[simp] theorem State.withDraws_gpr (s : State) (v : Nat) : (s.withDraws v).gpr = s.gpr := rfl
@[simp] theorem State.withDraws_eip (s : State) (v : Nat) : (s.withDraws v).eip = s.eip := rfl
@[simp] theorem State.withDraws_flags (s : State) (v : Nat) : (s.withDraws v).flags = s.flags := rfl
@[simp] theorem State.withDraws_cs (s : State) (v : Nat) : (s.withDraws v).cs = s.cs := rfl
@[simp] theorem State.withDraws_ds (s : State) (v : Nat) : (s.withDraws v).ds = s.ds := rfl
@[simp] theorem State.withDraws_es (s : State) (v : Nat) : (s.withDraws v).es = s.es := rfl
@[simp] theorem State.withDraws_fs (s : State) (v : Nat) : (s.withDraws v).fs = s.fs := rfl
@[simp] theorem State.withDraws_gs (s : State) (v : Nat) : (s.withDraws v).gs = s.gs := rfl
@[simp] theorem State.withDraws_ss (s : State) (v : Nat) : (s.withDraws v).ss = s.ss := rfl
@[simp] theorem State.withDraws_cpl (s : State) (v : Nat) : (s.withDraws v).cpl = s.cpl := rfl
@[simp] theorem State.withDraws_gdtr (s : State) (v : Nat) : (s.withDraws v).gdtr = s.gdtr := rfl
@[simp] theorem State.withDraws_idtr (s : State) (v : Nat) : (s.withDraws v).idtr = s.idtr := rfl
@[simp] theorem State.withDraws_ldtr (s : State) (v : Nat) : (s.withDraws v).ldtr = s.ldtr := rfl
@[simp] theorem State.withDraws_tr (s : State) (v : Nat) : (s.withDraws v).tr = s.tr := rfl
@[simp] theorem State.withDraws_cr0 (s : State) (v : Nat) : (s.withDraws v).cr0 = s.cr0 := rfl
@[simp] theorem State.withDraws_sysenterCs (s : State) (v : Nat) : (s.withDraws v).sysenterCs = s.sysenterCs := rfl
@[simp] theorem State.withDraws_sysenterEsp (s : State) (v : Nat) : (s.withDraws v).sysenterEsp = s.sysenterEsp := rfl
@[simp] theorem State.withDraws_sysenterEip (s : State) (v : Nat) : (s.withDraws v).sysenterEip = s.sysenterEip := rfl
@[simp] theorem State.withDraws_intShadow (s : State) (v : Nat) : (s.withDraws v).intShadow = s.intShadow := rfl
@[simp] theorem State.withDraws_mem (s : State) (v : Nat) : (s.withDraws v).mem = s.mem := rfl
@[simp] theorem State.withDraws_pageFaults (s : State) (v : Nat) : (s.withDraws v).pageFaults = s.pageFaults := rfl
@[simp] theorem State.withDraws_inputs (s : State) (v : Nat) : (s.withDraws v).inputs = s.inputs := rfl
@[simp] theorem State.withDraws_draws (s : State) (v : Nat) : (s.withDraws v).draws = v := rfl
@[simp] theorem State.withDraws_reg32 (s : State) (v : Nat) (n : RegNum) : (s.withDraws v).reg32 n = s.reg32 n := rfl
@[simp] theorem State.withDraws_readReg (s : State) (v : Nat) (w : Width) (n : RegNum) :
    (s.withDraws v).readReg w n = s.readReg w n := rfl
@[simp] theorem State.withDraws_heldAt (s : State) (v : Nat) (a : Word32) : (s.withDraws v).heldAt a = s.heldAt a := rfl
@[simp] theorem State.withDraws_seg (s : State) (v : Nat) (n : SegName) : (s.withDraws v).seg n = s.seg n := by cases n <;> rfl
@[simp] theorem State.withDraws_pe (s : State) (v : Nat) : (s.withDraws v).pe = s.pe := rfl
@[simp] theorem State.withDraws_mode (s : State) (v : Nat) : (s.withDraws v).mode = s.mode := rfl
@[simp] theorem State.withDraws_lin (s : State) (v : Nat) (l : Loc) (k : Nat) : l.lin (s.withDraws v) k = l.lin s k := by
  simp only [Loc.lin, State.withDraws_seg]

/-! ### `withRing` -/

@[simp] theorem State.withRing_cfg (s : State) (cs ss : SegReg) (cpl : BitVec 2) (g : Vector Word32 8) (e : Word32) :
    (s.withRing cs ss cpl g e).cfg = s.cfg := rfl
@[simp] theorem State.withRing_gpr (s : State) (cs ss : SegReg) (cpl : BitVec 2) (g : Vector Word32 8) (e : Word32) :
    (s.withRing cs ss cpl g e).gpr = g := rfl
@[simp] theorem State.withRing_eip (s : State) (cs ss : SegReg) (cpl : BitVec 2) (g : Vector Word32 8) (e : Word32) :
    (s.withRing cs ss cpl g e).eip = e := rfl
@[simp] theorem State.withRing_flags (s : State) (cs ss : SegReg) (cpl : BitVec 2) (g : Vector Word32 8) (e : Word32) :
    (s.withRing cs ss cpl g e).flags = s.flags := rfl
@[simp] theorem State.withRing_cs (s : State) (cs ss : SegReg) (cpl : BitVec 2) (g : Vector Word32 8) (e : Word32) :
    (s.withRing cs ss cpl g e).cs = cs := rfl
@[simp] theorem State.withRing_ds (s : State) (cs ss : SegReg) (cpl : BitVec 2) (g : Vector Word32 8) (e : Word32) :
    (s.withRing cs ss cpl g e).ds = s.ds := rfl
@[simp] theorem State.withRing_es (s : State) (cs ss : SegReg) (cpl : BitVec 2) (g : Vector Word32 8) (e : Word32) :
    (s.withRing cs ss cpl g e).es = s.es := rfl
@[simp] theorem State.withRing_fs (s : State) (cs ss : SegReg) (cpl : BitVec 2) (g : Vector Word32 8) (e : Word32) :
    (s.withRing cs ss cpl g e).fs = s.fs := rfl
@[simp] theorem State.withRing_gs (s : State) (cs ss : SegReg) (cpl : BitVec 2) (g : Vector Word32 8) (e : Word32) :
    (s.withRing cs ss cpl g e).gs = s.gs := rfl
@[simp] theorem State.withRing_ss (s : State) (cs ss : SegReg) (cpl : BitVec 2) (g : Vector Word32 8) (e : Word32) :
    (s.withRing cs ss cpl g e).ss = ss := rfl
@[simp] theorem State.withRing_cpl (s : State) (cs ss : SegReg) (cpl : BitVec 2) (g : Vector Word32 8) (e : Word32) :
    (s.withRing cs ss cpl g e).cpl = cpl := rfl
@[simp] theorem State.withRing_gdtr (s : State) (cs ss : SegReg) (cpl : BitVec 2) (g : Vector Word32 8) (e : Word32) :
    (s.withRing cs ss cpl g e).gdtr = s.gdtr := rfl
@[simp] theorem State.withRing_idtr (s : State) (cs ss : SegReg) (cpl : BitVec 2) (g : Vector Word32 8) (e : Word32) :
    (s.withRing cs ss cpl g e).idtr = s.idtr := rfl
@[simp] theorem State.withRing_ldtr (s : State) (cs ss : SegReg) (cpl : BitVec 2) (g : Vector Word32 8) (e : Word32) :
    (s.withRing cs ss cpl g e).ldtr = s.ldtr := rfl
@[simp] theorem State.withRing_tr (s : State) (cs ss : SegReg) (cpl : BitVec 2) (g : Vector Word32 8) (e : Word32) :
    (s.withRing cs ss cpl g e).tr = s.tr := rfl
@[simp] theorem State.withRing_cr0 (s : State) (cs ss : SegReg) (cpl : BitVec 2) (g : Vector Word32 8) (e : Word32) :
    (s.withRing cs ss cpl g e).cr0 = s.cr0 := rfl
@[simp] theorem State.withRing_sysenterCs (s : State) (cs ss : SegReg) (cpl : BitVec 2) (g : Vector Word32 8) (e : Word32) :
    (s.withRing cs ss cpl g e).sysenterCs = s.sysenterCs := rfl
@[simp] theorem State.withRing_sysenterEsp (s : State) (cs ss : SegReg) (cpl : BitVec 2) (g : Vector Word32 8) (e : Word32) :
    (s.withRing cs ss cpl g e).sysenterEsp = s.sysenterEsp := rfl
@[simp] theorem State.withRing_sysenterEip (s : State) (cs ss : SegReg) (cpl : BitVec 2) (g : Vector Word32 8) (e : Word32) :
    (s.withRing cs ss cpl g e).sysenterEip = s.sysenterEip := rfl
@[simp] theorem State.withRing_intShadow (s : State) (cs ss : SegReg) (cpl : BitVec 2) (g : Vector Word32 8) (e : Word32) :
    (s.withRing cs ss cpl g e).intShadow = s.intShadow := rfl
@[simp] theorem State.withRing_mem (s : State) (cs ss : SegReg) (cpl : BitVec 2) (g : Vector Word32 8) (e : Word32) :
    (s.withRing cs ss cpl g e).mem = s.mem := rfl
@[simp] theorem State.withRing_pageFaults (s : State) (cs ss : SegReg) (cpl : BitVec 2) (g : Vector Word32 8) (e : Word32) :
    (s.withRing cs ss cpl g e).pageFaults = s.pageFaults := rfl
@[simp] theorem State.withRing_inputs (s : State) (cs ss : SegReg) (cpl : BitVec 2) (g : Vector Word32 8) (e : Word32) :
    (s.withRing cs ss cpl g e).inputs = s.inputs := rfl
@[simp] theorem State.withRing_draws (s : State) (cs ss : SegReg) (cpl : BitVec 2) (g : Vector Word32 8) (e : Word32) :
    (s.withRing cs ss cpl g e).draws = s.draws := rfl
@[simp] theorem State.withRing_heldAt (s : State) (cs ss : SegReg) (cpl : BitVec 2) (g : Vector Word32 8) (e : Word32)
    (a : Word32) : (s.withRing cs ss cpl g e).heldAt a = s.heldAt a := rfl
@[simp] theorem State.withRing_byteAt (s : State) (cs ss : SegReg) (cpl : BitVec 2) (g : Vector Word32 8) (e : Word32)
    (a : Word32) : (s.withRing cs ss cpl g e).byteAt a = s.byteAt a := rfl

/-! ### `spend`, `setReg32`, `storeBytes` as updates of one field -/

@[simp] theorem State.spend_cfg (s : State) (k : Nat) : (s.spend k).cfg = s.cfg := rfl
@[simp] theorem State.spend_gpr (s : State) (k : Nat) : (s.spend k).gpr = s.gpr := rfl
@[simp] theorem State.spend_eip (s : State) (k : Nat) : (s.spend k).eip = s.eip := rfl
@[simp] theorem State.spend_flags (s : State) (k : Nat) : (s.spend k).flags = s.flags := rfl
@[simp] theorem State.spend_cs (s : State) (k : Nat) : (s.spend k).cs = s.cs := rfl
@[simp] theorem State.spend_ds (s : State) (k : Nat) : (s.spend k).ds = s.ds := rfl
@[simp] theorem State.spend_es (s : State) (k : Nat) : (s.spend k).es = s.es := rfl
@[simp] theorem State.spend_fs (s : State) (k : Nat) : (s.spend k).fs = s.fs := rfl
@[simp] theorem State.spend_gs (s : State) (k : Nat) : (s.spend k).gs = s.gs := rfl
@[simp] theorem State.spend_ss (s : State) (k : Nat) : (s.spend k).ss = s.ss := rfl
@[simp] theorem State.spend_cpl (s : State) (k : Nat) : (s.spend k).cpl = s.cpl := rfl
@[simp] theorem State.spend_gdtr (s : State) (k : Nat) : (s.spend k).gdtr = s.gdtr := rfl
@[simp] theorem State.spend_idtr (s : State) (k : Nat) : (s.spend k).idtr = s.idtr := rfl
@[simp] theorem State.spend_ldtr (s : State) (k : Nat) : (s.spend k).ldtr = s.ldtr := rfl
@[simp] theorem State.spend_tr (s : State) (k : Nat) : (s.spend k).tr = s.tr := rfl
@[simp] theorem State.spend_cr0 (s : State) (k : Nat) : (s.spend k).cr0 = s.cr0 := rfl
@[simp] theorem State.spend_sysenterCs (s : State) (k : Nat) : (s.spend k).sysenterCs = s.sysenterCs := rfl
@[simp] theorem State.spend_sysenterEsp (s : State) (k : Nat) : (s.spend k).sysenterEsp = s.sysenterEsp := rfl
@[simp] theorem State.spend_sysenterEip (s : State) (k : Nat) : (s.spend k).sysenterEip = s.sysenterEip := rfl
@[simp] theorem State.spend_intShadow (s : State) (k : Nat) : (s.spend k).intShadow = s.intShadow := rfl
@[simp] theorem State.spend_mem (s : State) (k : Nat) : (s.spend k).mem = s.mem := rfl
@[simp] theorem State.spend_pageFaults (s : State) (k : Nat) : (s.spend k).pageFaults = s.pageFaults := rfl
@[simp] theorem State.spend_draws (s : State) (k : Nat) : (s.spend k).draws = s.draws + k := rfl
@[simp] theorem State.spend_withDraws (s : State) (k n : Nat) : (s.spend k).withDraws n = s.withDraws n := rfl
@[simp] theorem State.spend_inputs (s : State) (k : Nat) : (s.spend k).inputs = s.inputs := rfl
@[simp] theorem State.setReg32_cfg (s : State) (n : RegNum) (v : Word32) : (s.setReg32 n v).cfg = s.cfg := rfl
@[simp] theorem State.setReg32_eip (s : State) (n : RegNum) (v : Word32) : (s.setReg32 n v).eip = s.eip := rfl
@[simp] theorem State.setReg32_flags (s : State) (n : RegNum) (v : Word32) : (s.setReg32 n v).flags = s.flags := rfl
@[simp] theorem State.setReg32_cs (s : State) (n : RegNum) (v : Word32) : (s.setReg32 n v).cs = s.cs := rfl
@[simp] theorem State.setReg32_ds (s : State) (n : RegNum) (v : Word32) : (s.setReg32 n v).ds = s.ds := rfl
@[simp] theorem State.setReg32_es (s : State) (n : RegNum) (v : Word32) : (s.setReg32 n v).es = s.es := rfl
@[simp] theorem State.setReg32_fs (s : State) (n : RegNum) (v : Word32) : (s.setReg32 n v).fs = s.fs := rfl
@[simp] theorem State.setReg32_gs (s : State) (n : RegNum) (v : Word32) : (s.setReg32 n v).gs = s.gs := rfl
@[simp] theorem State.setReg32_ss (s : State) (n : RegNum) (v : Word32) : (s.setReg32 n v).ss = s.ss := rfl
@[simp] theorem State.setReg32_cpl (s : State) (n : RegNum) (v : Word32) : (s.setReg32 n v).cpl = s.cpl := rfl
@[simp] theorem State.setReg32_gdtr (s : State) (n : RegNum) (v : Word32) : (s.setReg32 n v).gdtr = s.gdtr := rfl
@[simp] theorem State.setReg32_idtr (s : State) (n : RegNum) (v : Word32) : (s.setReg32 n v).idtr = s.idtr := rfl
@[simp] theorem State.setReg32_ldtr (s : State) (n : RegNum) (v : Word32) : (s.setReg32 n v).ldtr = s.ldtr := rfl
@[simp] theorem State.setReg32_tr (s : State) (n : RegNum) (v : Word32) : (s.setReg32 n v).tr = s.tr := rfl
@[simp] theorem State.setReg32_cr0 (s : State) (n : RegNum) (v : Word32) : (s.setReg32 n v).cr0 = s.cr0 := rfl
@[simp] theorem State.setReg32_sysenterCs (s : State) (n : RegNum) (v : Word32) : (s.setReg32 n v).sysenterCs = s.sysenterCs := rfl
@[simp] theorem State.setReg32_sysenterEsp (s : State) (n : RegNum) (v : Word32) : (s.setReg32 n v).sysenterEsp = s.sysenterEsp := rfl
@[simp] theorem State.setReg32_sysenterEip (s : State) (n : RegNum) (v : Word32) : (s.setReg32 n v).sysenterEip = s.sysenterEip := rfl
@[simp] theorem State.setReg32_intShadow (s : State) (n : RegNum) (v : Word32) : (s.setReg32 n v).intShadow = s.intShadow := rfl
@[simp] theorem State.setReg32_mem (s : State) (n : RegNum) (v : Word32) : (s.setReg32 n v).mem = s.mem := rfl
@[simp] theorem State.setReg32_pageFaults (s : State) (n : RegNum) (v : Word32) : (s.setReg32 n v).pageFaults = s.pageFaults := rfl
@[simp] theorem State.setReg32_inputs (s : State) (n : RegNum) (v : Word32) : (s.setReg32 n v).inputs = s.inputs := rfl
@[simp] theorem State.setReg32_draws (s : State) (n : RegNum) (v : Word32) : (s.setReg32 n v).draws = s.draws := rfl
@[simp] theorem State.storeBytes_cfg (s : State) (l : Loc) (bs : List Byte) : (s.storeBytes l bs).cfg = s.cfg := rfl
@[simp] theorem State.storeBytes_gpr (s : State) (l : Loc) (bs : List Byte) : (s.storeBytes l bs).gpr = s.gpr := rfl
@[simp] theorem State.storeBytes_eip (s : State) (l : Loc) (bs : List Byte) : (s.storeBytes l bs).eip = s.eip := rfl
@[simp] theorem State.storeBytes_flags (s : State) (l : Loc) (bs : List Byte) : (s.storeBytes l bs).flags = s.flags := rfl
@[simp] theorem State.storeBytes_cs (s : State) (l : Loc) (bs : List Byte) : (s.storeBytes l bs).cs = s.cs := rfl
@[simp] theorem State.storeBytes_ds (s : State) (l : Loc) (bs : List Byte) : (s.storeBytes l bs).ds = s.ds := rfl
@[simp] theorem State.storeBytes_es (s : State) (l : Loc) (bs : List Byte) : (s.storeBytes l bs).es = s.es := rfl
@[simp] theorem State.storeBytes_fs (s : State) (l : Loc) (bs : List Byte) : (s.storeBytes l bs).fs = s.fs := rfl
@[simp] theorem State.storeBytes_gs (s : State) (l : Loc) (bs : List Byte) : (s.storeBytes l bs).gs = s.gs := rfl
@[simp] theorem State.storeBytes_ss (s : State) (l : Loc) (bs : List Byte) : (s.storeBytes l bs).ss = s.ss := rfl
@[simp] theorem State.storeBytes_cpl (s : State) (l : Loc) (bs : List Byte) : (s.storeBytes l bs).cpl = s.cpl := rfl
@[simp] theorem State.storeBytes_gdtr (s : State) (l : Loc) (bs : List Byte) : (s.storeBytes l bs).gdtr = s.gdtr := rfl
@[simp] theorem State.storeBytes_idtr (s : State) (l : Loc) (bs : List Byte) : (s.storeBytes l bs).idtr = s.idtr := rfl
@[simp] theorem State.storeBytes_ldtr (s : State) (l : Loc) (bs : List Byte) : (s.storeBytes l bs).ldtr = s.ldtr := rfl
@[simp] theorem State.storeBytes_tr (s : State) (l : Loc) (bs : List Byte) : (s.storeBytes l bs).tr = s.tr := rfl
@[simp] theorem State.storeBytes_cr0 (s : State) (l : Loc) (bs : List Byte) : (s.storeBytes l bs).cr0 = s.cr0 := rfl
@[simp] theorem State.storeBytes_sysenterCs (s : State) (l : Loc) (bs : List Byte) : (s.storeBytes l bs).sysenterCs = s.sysenterCs := rfl
@[simp] theorem State.storeBytes_sysenterEsp (s : State) (l : Loc) (bs : List Byte) : (s.storeBytes l bs).sysenterEsp = s.sysenterEsp := rfl
@[simp] theorem State.storeBytes_sysenterEip (s : State) (l : Loc) (bs : List Byte) : (s.storeBytes l bs).sysenterEip = s.sysenterEip := rfl
@[simp] theorem State.storeBytes_intShadow (s : State) (l : Loc) (bs : List Byte) : (s.storeBytes l bs).intShadow = s.intShadow := rfl
@[simp] theorem State.storeBytes_pageFaults (s : State) (l : Loc) (bs : List Byte) : (s.storeBytes l bs).pageFaults = s.pageFaults := rfl
@[simp] theorem State.storeBytes_inputs (s : State) (l : Loc) (bs : List Byte) : (s.storeBytes l bs).inputs = s.inputs := rfl
@[simp] theorem State.storeBytes_draws (s : State) (l : Loc) (bs : List Byte) : (s.storeBytes l bs).draws = s.draws := rfl
@[simp] theorem State.spend_reg32 (s : State) (k : Nat) (n : RegNum) : (s.spend k).reg32 n = s.reg32 n := rfl
@[simp] theorem State.spend_readReg (s : State) (k : Nat) (w : Width) (n : RegNum) : (s.spend k).readReg w n = s.readReg w n := rfl
@[simp] theorem State.spend_heldAt (s : State) (k : Nat) (a : Word32) : (s.spend k).heldAt a = s.heldAt a := rfl
@[simp] theorem State.setReg32_heldAt (s : State) (n : RegNum) (v a : Word32) : (s.setReg32 n v).heldAt a = s.heldAt a := rfl
@[simp] theorem State.setReg32_byteAt (s : State) (n : RegNum) (v a : Word32) : (s.setReg32 n v).byteAt a = s.byteAt a := rfl
@[simp] theorem State.storeBytes_reg32 (s : State) (l : Loc) (bs : List Byte) (n : RegNum) :
    (s.storeBytes l bs).reg32 n = s.reg32 n := rfl
@[simp] theorem State.storeBytes_seg (s : State) (l : Loc) (bs : List Byte) (n : SegName) :
    (s.storeBytes l bs).seg n = s.seg n := by cases n <;> rfl
@[simp] theorem State.storeBytes_lin (s : State) (l l' : Loc) (bs : List Byte) (k : Nat) :
    l'.lin (s.storeBytes l bs) k = l'.lin s k := by simp only [Loc.lin, State.storeBytes_seg]

end Sys2Proof.Machine
end

