-- ==== Sys2Proof/Laws/Memory.lean ====
section
/-! SUPPORT. The laws of memory: reading what was written, leaving the rest alone, and keeping the canonical form. -/

namespace Sys2Proof.Machine

/-! ## One cell -/

theorem Mem.get?_set (m : List Host.Cell) (a b : Nat) (v : Byte) :
    Mem.get? (Mem.set m a v) b = if b = a then some v else Mem.get? m b := by
  induction m with
  | nil => simp only [Mem.set, Mem.get?, eq_comm (a := a)]
  | cons c m ih =>
    simp only [Mem.set]
    split
    · by_cases h : b = a
      · simp [Mem.get?, h]
      · simp [Mem.get?, h, Ne.symm h]
    · split
      · rename_i h1
        by_cases h : b = a
        · simp [Mem.get?, h]
        · simp [Mem.get?, h, Ne.symm h, ← h1]
      · rename_i h1 h2
        by_cases h : b = a
        · subst h
          simp [Mem.get?, ih, Ne.symm h2]
        · simp [Mem.get?, ih, h]

theorem Mem.mem_set {m : List Host.Cell} {a : Nat} {v : Byte} {c : Host.Cell} (h : c ∈ Mem.set m a v) :
    c = (a, v) ∨ c ∈ m := by
  induction m with
  | nil => simpa [Mem.set] using h
  | cons d m ih =>
    simp only [Mem.set] at h
    split at h
    · simpa using h
    · split at h
      · rcases List.mem_cons.mp h with h | h
        · exact .inl h
        · exact .inr (List.mem_cons_of_mem _ h)
      · rcases List.mem_cons.mp h with h | h
        · exact .inr (by simp [h])
        · rcases ih h with h | h
          · exact .inl h
          · exact .inr (List.mem_cons_of_mem _ h)

theorem Mem.wf_set {m : List Host.Cell} {a : Nat} {v : Byte} (h : Mem.wf m) (ha : a < 2 ^ 32) : Mem.wf (Mem.set m a v) := by
  obtain ⟨hp, hb⟩ := h
  refine ⟨?_, fun c hc => ?_⟩
  · clear hb
    induction m with
    | nil => simp [Mem.set]
    | cons d m ih =>
      rw [List.pairwise_cons] at hp
      simp only [Mem.set]
      split
      · rename_i hlt
        refine List.pairwise_cons.mpr ⟨fun c hc => ?_, List.pairwise_cons.mpr hp⟩
        rcases List.mem_cons.mp hc with rfl | hc
        · exact hlt
        · exact lt_trans hlt (hp.1 c hc)
      · split
        · rename_i heq
          subst heq
          exact List.pairwise_cons.mpr hp
        · refine List.pairwise_cons.mpr ⟨fun c hc => ?_, ih hp.2⟩
          rcases Mem.mem_set hc with rfl | hc
          · simp only; omega
          · exact hp.1 c hc
  · rcases Mem.mem_set hc with rfl | hc
    · exact ha
    · exact hb c hc

/-! ## Several cells -/

theorem Mem.wf_setAll {cs m : List Host.Cell} (h : Mem.wf m) (hc : ∀ c ∈ cs, c.1 < 2 ^ 32) : Mem.wf (Mem.setAll m cs) := by
  induction cs generalizing m with
  | nil => exact h
  | cons c cs ih =>
    exact ih (Mem.wf_set h (hc c (by simp))) fun d hd => hc d (by simp [hd])

theorem Mem.get?_setAll_of_not_mem {cs m : List Host.Cell} {a : Nat} (h : ∀ c ∈ cs, c.1 ≠ a) :
    Mem.get? (Mem.setAll m cs) a = Mem.get? m a := by
  induction cs generalizing m with
  | nil => rfl
  | cons c cs ih =>
    rw [Mem.setAll, ih fun d hd => h d (by simp [hd]), Mem.get?_set, if_neg (Ne.symm (h c (by simp)))]

/-! ## Locations -/

theorem Loc.cells_lt (l : Loc) (s : State) (k : Nat) (bs : List Byte) : ∀ c ∈ l.cells s k bs, c.1 < 2 ^ 32 := by
  induction bs generalizing k with
  | nil => simp [Loc.cells]
  | cons b bs ih =>
    intro c hc
    rcases List.mem_cons.mp hc with rfl | hc
    · exact (l.lin s k).isLt
    · exact ih _ c hc

theorem Loc.mem_cells {l : Loc} {s : State} {k : Nat} {bs : List Byte} {c : Host.Cell} (h : c ∈ l.cells s k bs) :
    ∃ j, j < bs.length ∧ c.1 = (l.lin s (k + j)).toNat := by
  induction bs generalizing k with
  | nil => simp [Loc.cells] at h
  | cons b bs ih =>
    rcases List.mem_cons.mp h with rfl | h
    · exact ⟨0, by simp, rfl⟩
    · obtain ⟨j, hj, hc⟩ := ih h
      exact ⟨j + 1, by simpa using hj, by rw [hc, show k + 1 + j = k + (j + 1) by omega]⟩

/-- Bytes of one operand lie at different addresses. -/
theorem Loc.lin_inj {l : Loc} {s : State} {j k : Nat} (hj : j < 65536) (hk : k < 65536) (h : l.lin s j = l.lin s k) :
    j = k := by
  have h := add_left_cancel h
  cases hz : l.asz <;> simp only [wrapOffset, hz] at h
  · have h := congrArg BitVec.toNat h
    rw [show (0xFFFF#32) = BitVec.ofNat 32 (2 ^ 16 - 1) from rfl] at h
    simp only [BitVec.toNat_and, BitVec.toNat_add, BitVec.toNat_ofNat] at h
    rw [Nat.mod_eq_of_lt (show 2 ^ 16 - 1 < 2 ^ 32 by decide), Nat.and_two_pow_sub_one_eq_mod,
      Nat.and_two_pow_sub_one_eq_mod] at h
    omega
  · have h := congrArg BitVec.toNat (add_left_cancel h)
    simp only [BitVec.toNat_ofNat] at h
    omega

/-- A byte memory holds reads as what it holds, whatever draw the read takes. -/
theorem byteAt_of_heldAt {s : State} {a : Word32} {b : Byte} (h : s.heldAt a = some b) : s.byteAt a = b := by
  rw [State.byteAt, h]
  rfl

theorem heldAt_storeBytes_outside (s : State) (l : Loc) (bs : List Byte) (a : Word32)
    (h : ∀ k, k < bs.length → a ≠ l.lin s k) : (s.storeBytes l bs).heldAt a = s.heldAt a := by
  unfold State.heldAt State.storeBytes
  rw [State.withMem_mem, Mem.get?_setAll_of_not_mem]
  intro c hc he
  obtain ⟨j, hj, hc⟩ := Loc.mem_cells hc
  rw [Nat.zero_add] at hc
  exact h j hj (BitVec.eq_of_toNat_eq (by rw [← hc, he]))

theorem get?_setAll_cells (s : State) (l : Loc) (bs : List Byte) (m : List Host.Cell) (k j : Nat) (hj : j < bs.length)
    (hk : k + bs.length < 65536) :
    Mem.get? (Mem.setAll m (l.cells s k bs)) (l.lin s (k + j)).toNat = some bs[j] := by
  induction bs generalizing k m j with
  | nil => simp at hj
  | cons b bs ih =>
    simp only [List.length_cons] at hj hk
    rw [Loc.cells, Mem.setAll]
    cases j with
    | zero =>
      rw [Mem.get?_setAll_of_not_mem, Mem.get?_set]
      · simp
      · intro c hc he
        obtain ⟨i, hi, hc⟩ := Loc.mem_cells hc
        rw [hc] at he
        have := Loc.lin_inj (by omega) (by omega) (BitVec.eq_of_toNat_eq he)
        omega
    | succ j =>
      have := ih (Mem.set m (l.lin s k).toNat b) (k + 1) j (by omega) (by omega)
      rw [show k + (j + 1) = k + 1 + j by omega]
      simpa using this

theorem heldAt_storeBytes (s : State) (l : Loc) (bs : List Byte) (j : Nat) (hj : j < bs.length)
    (hl : bs.length < 65536) : (s.storeBytes l bs).heldAt (l.lin s j) = some bs[j] := by
  have := get?_setAll_cells s l bs s.mem 0 j hj (by omega)
  rw [Nat.zero_add] at this
  simp [State.heldAt, State.storeBytes, this]

theorem wf_storeBytes {s : State} (h : Mem.wf s.mem) (l : Loc) (bs : List Byte) : Mem.wf (s.storeBytes l bs).mem :=
  Mem.wf_setAll h (l.cells_lt s 0 bs)

/-! ## Operands of 1, 2 and 4 bytes -/

@[simp] theorem valueBytes_length (w : Width) (v : BitVec w.bits) : (valueBytes w v).length = w.bytes := by
  cases w <;> rfl

theorem width_bytes_lt (w : Width) : w.bytes < 65536 := by cases w <;> decide

/-- A word is its two bytes, the low one first. -/
theorem join16 (v : Word16) : v.extractLsb' 8 8 ++ v.extractLsb' 0 8 = v := by
  apply BitVec.eq_of_getLsbD_eq
  intro i hi
  rw [BitVec.getLsbD_append]
  by_cases h : i < 8
  · simp [h]
  · simp [h, show 8 + (i - 8) = i by omega, show i - 8 < 8 by omega]

/-- A doubleword is its four bytes, the low one first. -/
theorem join32 (v : Word32) :
    v.extractLsb' 24 8 ++ v.extractLsb' 16 8 ++ v.extractLsb' 8 8 ++ v.extractLsb' 0 8 = v := by
  apply BitVec.eq_of_getLsbD_eq
  intro i hi
  rw [BitVec.getLsbD_append, BitVec.getLsbD_append, BitVec.getLsbD_append]
  by_cases h : i < 8
  · simp [h]
  by_cases h1 : i < 16
  · simp [h, show 8 + (i - 8) = i by omega, show i - 8 < 8 by omega]
  by_cases h2 : i < 24
  · simp [h, show ¬ i - 8 < 8 by omega, show i - 8 - 8 < 8 by omega,
      show 16 + (i - 8 - 8) = i by omega]
  · simp [h, show ¬ i - 8 < 8 by omega, show ¬ i - 8 - 8 < 8 by omega,
      show i - 8 - 8 - 8 < 8 by omega, show 24 + (i - 8 - 8 - 8) = i by omega]

/-- An operand whose bytes memory holds reads as their value. -/
theorem readLoc_of_heldAt {t : State} {w : Width} {l : Loc} {v : BitVec w.bits}
    (h : ∀ j, (hj : j < (valueBytes w v).length) → t.heldAt (l.lin t j) = some (valueBytes w v)[j]) :
    t.readLoc w l = v := by
  have hb : ∀ j, (hj : j < (valueBytes w v).length) → t.byteAt (l.lin t j) = (valueBytes w v)[j] :=
    fun j hj => byteAt_of_heldAt (h j hj)
  cases w with
  | w8 =>
    have h0 := hb 0 (by simp [valueBytes])
    simp only [State.readLoc, h0]
    rfl
  | w16 =>
    have h0 := hb 0 (by simp [valueBytes])
    have h1 := hb 1 (by simp [valueBytes])
    simp only [State.readLoc, h0, h1]
    simp only [valueBytes, List.getElem_cons_zero, List.getElem_cons_succ]
    exact join16 v
  | w32 =>
    have h0 := hb 0 (by simp [valueBytes])
    have h1 := hb 1 (by simp [valueBytes])
    have h2 := hb 2 (by simp [valueBytes])
    have h3 := hb 3 (by simp [valueBytes])
    simp only [State.readLoc, h0, h1, h2, h3]
    simp only [valueBytes, List.getElem_cons_zero, List.getElem_cons_succ]
    exact join32 v

/-- A `MemWrite` is held. -/
theorem heldAt_writeLoc (s : State) (w : Width) (l : Loc) (v : BitVec w.bits) (j : Nat)
    (hj : j < (valueBytes w v).length) : (s.writeLoc w l v).heldAt (l.lin s j) = some (valueBytes w v)[j] :=
  heldAt_storeBytes s l _ j hj (by rw [valueBytes_length]; exact width_bytes_lt w)

/-- `MemRead` after `MemWrite` at the same location. -/
theorem readLoc_writeLoc (s : State) (w : Width) (l : Loc) (v : BitVec w.bits) : (s.writeLoc w l v).readLoc w l = v :=
  readLoc_of_heldAt fun j hj => by
    rw [State.writeLoc, State.storeBytes_lin]
    exact heldAt_writeLoc s w l v j hj

theorem heldAt_writeLoc_outside (s : State) (w : Width) (l : Loc) (v : BitVec w.bits) (a : Word32)
    (h : ∀ k, k < w.bytes → a ≠ l.lin s k) : (s.writeLoc w l v).heldAt a = s.heldAt a :=
  heldAt_storeBytes_outside s l _ a (by simpa using h)

theorem wf_writeLoc {s : State} (h : Mem.wf s.mem) (w : Width) (l : Loc) (v : BitVec w.bits) :
    Mem.wf (s.writeLoc w l v).mem := wf_storeBytes h l _

theorem wf_reset : Mem.wf State.reset.mem := by simp [State.reset, Mem.wf]

end Sys2Proof.Machine
end

