-- ==== Sys2Proof/Laws/Registers.lean ====
section
/-! SUPPORT. The laws of the register file: a register read after a write, at any of the three widths. -/

namespace Sys2Proof.Machine

theorem reg32_setReg32 (s : State) (n k : RegNum) (v : Word32) :
    (s.setReg32 n v).reg32 k = if k = n then v else s.reg32 k := by
  unfold State.setReg32 State.reg32 State.withGpr
  simp only [Vector.getElem_set]
  by_cases h : k = n
  · simp [h]
  · rw [if_neg h, if_neg]
    exact fun e => h (BitVec.eq_of_toNat_eq e.symm)

@[simp] theorem reg32_setReg32_self (s : State) (n : RegNum) (v : Word32) : (s.setReg32 n v).reg32 n = v := by
  simp [reg32_setReg32]

theorem reg32_setReg32_ne (s : State) {n k : RegNum} (v : Word32) (h : k ≠ n) :
    (s.setReg32 n v).reg32 k = s.reg32 k := by simp [reg32_setReg32, h]

/-! ## Parts of a 32-bit register -/

theorem getLsbD_putLow8 (old : Word32) (v : Byte) (i : Nat) :
    (putLow8 old v).getLsbD i = if i < 8 then v.getLsbD i else old.getLsbD i := by
  unfold putLow8
  rw [BitVec.getLsbD_append]
  by_cases h : i < 8
  · simp [h]
  · simp only [h, if_false, BitVec.getLsbD_extractLsb']
    by_cases h2 : i < 32
    · simp [show i - 8 < 24 by omega, show 8 + (i - 8) = i by omega]
    · simp [show ¬ i - 8 < 24 by omega, BitVec.getLsbD_of_ge old i (by omega)]

theorem getLsbD_putHigh8 (old : Word32) (v : Byte) (i : Nat) :
    (putHigh8 old v).getLsbD i = if 8 ≤ i ∧ i < 16 then v.getLsbD (i - 8) else old.getLsbD i := by
  unfold putHigh8
  rw [BitVec.getLsbD_append, BitVec.getLsbD_append]
  by_cases h : i < 8
  · simp [h, show ¬ (8 ≤ i ∧ i < 16) by omega]
  by_cases h1 : i < 16
  · simp [h, show 8 ≤ i ∧ i < 16 by omega, show i - 8 < 8 by omega]
  · simp only [h, if_false, show ¬ i - 8 < 8 by omega, show ¬ (8 ≤ i ∧ i < 16) by omega, BitVec.getLsbD_extractLsb']
    by_cases h2 : i < 32
    · simp [show i - 8 - 8 < 16 by omega, show 16 + (i - 8 - 8) = i by omega]
    · simp [show ¬ i - 8 - 8 < 16 by omega, BitVec.getLsbD_of_ge old i (by omega)]

theorem getLsbD_putLow16 (old : Word32) (v : Word16) (i : Nat) :
    (putLow16 old v).getLsbD i = if i < 16 then v.getLsbD i else old.getLsbD i := by
  unfold putLow16
  rw [BitVec.getLsbD_append]
  by_cases h : i < 16
  · simp [h]
  · simp only [h, if_false, BitVec.getLsbD_extractLsb']
    by_cases h2 : i < 32
    · simp [show i - 16 < 16 by omega, show 16 + (i - 16) = i by omega]
    · simp [show ¬ i - 16 < 16 by omega, BitVec.getLsbD_of_ge old i (by omega)]

@[simp] theorem putLow8_low (old : Word32) (v : Byte) : (putLow8 old v).extractLsb' 0 8 = v := by
  apply BitVec.eq_of_getLsbD_eq
  intro i hi
  simp [getLsbD_putLow8, hi]

@[simp] theorem putHigh8_high (old : Word32) (v : Byte) : (putHigh8 old v).extractLsb' 8 8 = v := by
  apply BitVec.eq_of_getLsbD_eq
  intro i hi
  simp [getLsbD_putHigh8, hi, show 8 + i < 16 by omega]

@[simp] theorem putLow16_low (old : Word32) (v : Word16) : (putLow16 old v).extractLsb' 0 16 = v := by
  apply BitVec.eq_of_getLsbD_eq
  intro i hi
  simp [getLsbD_putLow16, hi]

/-! ## Register writes of a width -/

/-- A register reads as it was written (10_state.md R22, R23). -/
@[simp] theorem readReg_writeReg (s : State) (w : Width) (n : RegNum) (v : BitVec w.bits) :
    (s.writeReg w n v).readReg w n = v := by
  cases w with
  | w8 =>
    unfold State.writeReg State.readReg
    by_cases h : n.getLsbD 2 = true <;> simp only [h, if_true, reg32_setReg32_self] <;> simp
  | w16 => simp [State.writeReg, State.readReg]
  | w32 => simp [State.writeReg, State.readReg]

/-- What a register write leaves of the state. -/
theorem writeReg_eq_withGpr (s : State) (w : Width) (n : RegNum) (v : BitVec w.bits) :
    ∃ g, s.writeReg w n v = s.withGpr g := by
  cases w <;> exact ⟨_, rfl⟩

/-- A register write leaves the 32-bit registers it does not lie in. -/
theorem reg32_writeReg_ne (s : State) (w : Width) (n k : RegNum) (v : BitVec w.bits)
    (h : k ≠ if w = .w8 then byteHome n else n) : (s.writeReg w n v).reg32 k = s.reg32 k := by
  cases w
  · exact reg32_setReg32_ne _ _ (by simpa using h)
  · exact reg32_setReg32_ne _ _ (by simpa using h)
  · exact reg32_setReg32_ne _ _ (by simpa using h)

end Sys2Proof.Machine
end

