-- ==== Sys2Proof/Laws/Ops.lean ====
section
/-! SUPPORT. For each shared operation, what it answers: one lemma that says everything a next state can be, and one each
for the stops where there are any. -/

namespace Sys2Proof.Machine

/-! ## Outcomes -/

@[simp] theorem complete_next (s t : State) : complete s = .next t ↔ t = s.withIntShadow false := by
  simp [complete, eq_comm]

@[simp] theorem complete_ne_fault (s : State) (f : Fault) : complete s ≠ .fault f := by simp [complete]

@[simp] theorem complete_ne_refused (s : State) (r : Refusal) : complete s ≠ .refused r := by simp [complete]

@[simp] theorem raise_ne_next (e : Exception) (t : State) : raise e ≠ .next t := by simp [raise]

@[simp] theorem raise_fault (e : Exception) (f : Fault) : raise e = .fault f ↔ f = .exception e := by
  simp [raise, eq_comm]

@[simp] theorem raise_ne_refused (e : Exception) (r : Refusal) : raise e ≠ .refused r := by simp [raise]

/-! ## The checks -/

theorem withAccess_next {s t : State} {l : Loc} {n : Nat} {k : AccessKind} {go : Result}
    (h : withAccess s l n k go = .next t) : checkAccess s l n k = none ∧ go = .next t := by
  unfold withAccess at h
  cases hc : checkAccess s l n k with
  | none => rw [hc] at h; exact ⟨rfl, h⟩
  | some e => rw [hc] at h; simp at h

theorem withAccess_pass {s : State} {l : Loc} {n : Nat} {k : AccessKind} {go : Result}
    (h : checkAccess s l n k = none) : withAccess s l n k go = go := by rw [withAccess, h]

theorem withAccess_raise {s : State} {l : Loc} {n : Nat} {k : AccessKind} {go : Result} {e : Exception}
    (h : checkAccess s l n k = some e) : withAccess s l n k go = raise e := by rw [withAccess, h]

theorem withAccess_fault {s : State} {l : Loc} {n : Nat} {k : AccessKind} {go : Result} {f : Fault}
    (h : withAccess s l n k go = .fault f) :
    (∃ e, checkAccess s l n k = some e ∧ f = .exception e) ∨ (checkAccess s l n k = none ∧ go = .fault f) := by
  unfold withAccess at h
  cases hc : checkAccess s l n k with
  | none => rw [hc] at h; exact .inr ⟨rfl, h⟩
  | some e => rw [hc] at h; exact .inl ⟨e, rfl, (raise_fault e f).mp h⟩

theorem withRmAccess_next {s t : State} {rm : RM} {n : Nat} {k : AccessKind} {go : Result}
    (h : withRmAccess s rm n k go = .next t) :
    (∀ m, rm = .mem m → checkAccess s (memLoc m s) n k = none) ∧ go = .next t := by
  cases rm with
  | reg r => exact ⟨by simp, h⟩
  | mem m =>
    have := withAccess_next h
    exact ⟨fun m' e => by cases e; exact this.1, this.2⟩

theorem withRmAccess_pass {s : State} {rm : RM} {n : Nat} {k : AccessKind} {go : Result}
    (h : ∀ m, rm = .mem m → checkAccess s (memLoc m s) n k = none) : withRmAccess s rm n k go = go := by
  cases rm with
  | reg r => rfl
  | mem m => exact withAccess_pass (h m rfl)

theorem withRmAccess_fault {s : State} {rm : RM} {n : Nat} {k : AccessKind} {go : Result} {f : Fault}
    (h : withRmAccess s rm n k go = .fault f) :
    (∃ m e, rm = .mem m ∧ checkAccess s (memLoc m s) n k = some e ∧ f = .exception e) ∨ go = .fault f := by
  cases rm with
  | reg r => exact .inr h
  | mem m =>
    rcases withAccess_fault h with ⟨e, h1, h2⟩ | ⟨_, h⟩
    · exact .inl ⟨m, e, rfl, h1, h2⟩
    · exact .inr h

theorem need32_next {s t : State} {w : Width} {go : Result} (h : need32 s w go = .next t) :
    (w = .w32 → s.cfg.procGen.has32 = true) ∧ go = .next t := by
  unfold need32 at h
  split at h
  · simp at h
  · rename_i hn
    exact ⟨fun hw => by simpa [hw] using hn, h⟩

theorem need32_pass {s : State} {w : Width} {go : Result} (h : w = .w32 → s.cfg.procGen.has32 = true) :
    need32 s w go = go := by
  unfold need32
  rw [if_neg]
  exact fun ⟨hw, hb⟩ => by simp [h hw] at hb

theorem need32_fault {s : State} {w : Width} {go : Result} {f : Fault} (h : need32 s w go = .fault f) :
    go = .fault f := by
  unfold need32 at h
  split at h
  · simp at h
  · exact h

theorem protectedOnly_next {s t : State} {go : Result} (h : protectedOnly s go = .next t) :
    s.mode = .protectedMode ∧ go = .next t := by
  unfold protectedOnly at h
  split at h
  · rename_i hm; exact ⟨hm, h⟩
  · simp at h

/-! ## Operand writes -/

/-- An `r/m` write changes registers or memory, not both, and nothing else. -/
theorem writeRm_eq (s : State) (w : Width) (rm : RM) (v : BitVec w.bits) :
    (∃ n, rm = .reg n ∧ writeRm s w rm v = s.writeReg w n v) ∨
      (∃ m, rm = .mem m ∧ writeRm s w rm v = s.writeLoc w (memLoc m s) v) := by
  cases rm with
  | reg n => exact .inl ⟨n, rfl, rfl⟩
  | mem m => exact .inr ⟨m, rfl, rfl⟩

/-- Stepping (E)DI is one write of `GPR[7]`. -/
theorem stepDi_eq (s : State) (asz : Size) (w : Width) :
    ∃ g, stepDi s asz w = s.withGpr g ∧ ∀ k : RegNum, k ≠ 7#3 → (stepDi s asz w).reg32 k = s.reg32 k := by
  cases asz
  · exact ⟨_, rfl, fun k hk => reg32_setReg32_ne _ _ hk⟩
  · exact ⟨_, rfl, fun k hk => reg32_setReg32_ne _ _ hk⟩

/-! ## The families -/

theorem shiftInstr_next {w : Width} {op : ShiftOp} {dst : RM} {raw : Byte} {s t : State}
    (h : shiftInstr w op dst raw s = .next t) :
    (maskCount s.cfg.procGen raw = 0 ∧ t = s.withIntShadow false) ∨
      (maskCount s.cfg.procGen raw ≠ 0 ∧
        t = (shiftState w op dst (maskCount s.cfg.procGen raw) s).withIntShadow false) := by
  have h := (withRmAccess_next (need32_next h).2).2
  split at h
  · rename_i hc; exact .inl ⟨hc, (complete_next _ _).mp h⟩
  · rename_i hc; exact .inr ⟨hc, (complete_next _ _).mp h⟩

theorem dshiftInstr_next {w : Width} {op : DoubleShiftOp} {dst : RM} {src : RegNum} {raw : Byte} {s t : State}
    (h : dshiftInstr w op dst src raw s = .next t) :
    (maskCount5 raw = 0 ∧ t = s.withIntShadow false) ∨
      (maskCount5 raw ≠ 0 ∧ w.bits ≤ maskCount5 raw ∧ t = (dshiftUndefinedState w dst s).withIntShadow false) ∨
      (maskCount5 raw ≠ 0 ∧ maskCount5 raw < w.bits ∧
        t = (dshiftState w op dst (s.readReg w src) (maskCount5 raw) s).withIntShadow false) := by
  have h := (withRmAccess_next (need32_next h).2).2
  split at h
  · rename_i hc; exact .inl ⟨hc, (complete_next _ _).mp h⟩
  · rename_i hc
    split at h
    · rename_i hw; exact .inr (.inl ⟨hc, hw, (complete_next _ _).mp h⟩)
    · rename_i hw; exact .inr (.inr ⟨hc, not_le.mp hw, (complete_next _ _).mp h⟩)

theorem subToRm_next {w : Width} {carry : Bool} {dst : RM} {b : BitVec w.bits} {s t : State}
    (h : subToRm w carry dst b s = .next t) :
    t = (((writeRm s w dst (subResult (readRm s w dst) b (borrowIn carry s))).withFlags
      (subFlags s.flags (readRm s w dst) b (borrowIn carry s))).spend (rmDraws dst)).withIntShadow false :=
  (complete_next _ _).mp (withRmAccess_next (need32_next h).2).2

theorem subFromRm_next {w : Width} {carry : Bool} {dst : RegNum} {src : RM} {s t : State}
    (h : subFromRm w carry dst src s = .next t) :
    t = (((s.writeReg w dst (subResult (s.readReg w dst) (readRm s w src) (borrowIn carry s))).withFlags
      (subFlags s.flags (s.readReg w dst) (readRm s w src) (borrowIn carry s))).spend (rmDraws src)).withIntShadow false :=
  (complete_next _ _).mp (withRmAccess_next (need32_next h).2).2

theorem subFromAcc_next {w : Width} {carry : Bool} {b : BitVec w.bits} {s t : State}
    (h : subFromAcc w carry b s = .next t) :
    t = ((s.writeReg w 0#3 (subResult (s.readReg w 0#3) b (borrowIn carry s))).withFlags
      (subFlags s.flags (s.readReg w 0#3) b (borrowIn carry s))).withIntShadow false :=
  (complete_next _ _).mp (need32_next h).2

theorem scas_next {w : Width} {asz : Size} {s t : State} (h : scas w asz s = .next t) :
    t = ((stepDi (s.withFlags
      (subFlags s.flags (s.readReg w 0#3) (s.readLoc w (stringLoc s asz)) false)) asz w).spend 1).withIntShadow false :=
  (complete_next _ _).mp (withAccess_next (need32_next h).2).2

theorem stos_next {w : Width} {asz : Size} {s t : State} (h : stos w asz s = .next t) :
    t = (stepDi (s.writeLoc w (stringLoc s asz) (s.readReg w 0#3)) asz w).withIntShadow false :=
  (complete_next _ _).mp (withAccess_next (need32_next h).2).2

theorem setcc_next {cc : BitVec 4} {dst : RM} {s t : State} (h : setcc cc dst s = .next t) :
    t = (writeRm s .w8 dst (if condHolds cc s.flags then 1#8 else 0#8)).withIntShadow false :=
  (complete_next _ _).mp (withRmAccess_next h).2

theorem storeTable_next {r : TableReg} {osz : Size} {dst : RM} {s t : State} (h : storeTable r osz dst s = .next t) :
    ∃ m, dst = .mem m ∧ s.cfg.procGen ≠ .i8086 ∧ checkAccess s (memLoc m s) 6 .write = none ∧
      t = (s.storeBytes (memLoc m s) (tableRegBytes osz s.cfg.procGen r)).withIntShadow false := by
  unfold storeTable at h
  split at h
  · simp at h
  · rename_i hg
    cases dst with
    | reg n => simp at h
    | mem m =>
      have h := withAccess_next h
      exact ⟨m, rfl, hg, h.1, (complete_next _ _).mp h.2⟩

theorem storeWord_next {dst : RM} {v : Word16} {s t : State} (h : storeWord dst v s = .next t) :
    t = (writeRm s .w16 dst v).withIntShadow false :=
  (complete_next _ _).mp (withRmAccess_next h).2

theorem storeWordHigh_next {dst : RM} {high v : Word16} {d : Nat} {s t : State}
    (h : storeWordHigh dst high v d s = .next t) :
    (∃ n, dst = .reg n ∧ t = ((s.setReg32 n (high ++ v)).spend d).withIntShadow false) ∨
      (∃ m, dst = .mem m ∧ t = (writeRm s .w16 dst v).withIntShadow false) := by
  cases dst with
  | reg n => exact .inl ⟨n, rfl, (complete_next _ _).mp h⟩
  | mem m => exact .inr ⟨m, rfl, storeWord_next h⟩

theorem execSti_next {s t : State} (h : execSti s = .next t) :
    stiAllowed s = true ∧ t = (s.withFlags { s.flags with ifl := true }).withIntShadow (!s.flags.ifl) := by
  unfold execSti at h
  split at h
  · rename_i ha; exact ⟨ha, (Host.Outcome.next.inj h).symm⟩
  · simp at h

theorem execSysenter_next {s t : State} (h : execSysenter s = .next t) :
    fastSystemCallPresent s.cfg = true ∧ s.pe = true ∧ s.sysenterCs ≠ 0#16 ∧
      t = (sysenterState s).withIntShadow false := by
  unfold execSysenter at h
  split at h
  · simp at h
  · rename_i h1
    split at h
    · simp at h
    · rename_i h2
      split at h
      · simp at h
      · rename_i h3
        exact ⟨by simpa using h1, by simpa using h2, h3, (complete_next _ _).mp h⟩

theorem execSysexit_next {s t : State} (h : execSysexit s = .next t) :
    fastSystemCallPresent s.cfg = true ∧ s.sysenterCs ≠ 0#16 ∧ s.pe = true ∧ s.cpl = 0#2 ∧ s.mode ≠ .virtual8086 ∧
      t = (sysexitState s).withIntShadow false := by
  unfold execSysexit at h
  split at h
  · simp at h
  · rename_i h1
    split at h
    · simp at h
    · rename_i h2
      split at h
      · simp at h
      · rename_i h3
        split at h
        · simp at h
        · rename_i h4
          rw [not_or, not_not] at h4
          exact ⟨by simpa using h1, h2, by simpa using h3, h4.1, h4.2, (complete_next _ _).mp h⟩

/-! ## The step -/

theorem step_next {s t : State} (h : step s = .next t) :
    recognized (nextInput s) s = none ∧ fetchExecute (passBoundary s) = .next t := by
  unfold step at h
  cases hr : recognized (nextInput s) s with
  | none => rw [hr] at h; exact ⟨rfl, h⟩
  | some k => rw [hr] at h; simp at h

theorem fetchExecute_next {s t : State} (h : fetchExecute s = .next t) :
    ∃ i len, fetch s = .next (i, len) ∧ exec i (afterFetch s len) = .next t := by
  unfold fetchExecute at h
  cases hf : fetch s with
  | next p => rw [hf] at h; exact ⟨p.1, p.2, rfl, h⟩
  | fault e => rw [hf] at h; simp at h
  | refused r => rw [hf] at h; simp at h

/-- What a fetch that succeeds has read: a whole instruction, and outside real-address mode no page fault. -/
theorem fetch_next {s : State} {i : Instr} {len : Nat} (h : fetch s = .next (i, len)) :
    ∃ rest, decode (codeSize s) (fetchWindow s) = .ok (i, rest) ∧ len = (fetchWindow s).length - rest.length ∧
      (s.mode ≠ .realAddress → s.pageFault ((codeLoc s).lin s 0) len .fetch = none) := by
  unfold fetch at h
  split at h
  · rename_i j rest hd
    dsimp only at h
    split at h
    · rename_i hm
      cases h
      exact ⟨rest, hd, rfl, fun hn => absurd hm hn⟩
    · split at h
      · simp at h
      · rename_i hp
        cases h
        exact ⟨rest, hd, rfl, fun _ => hp⟩
  · unfold fetchShort at h
    split at h
    · simp at h
    · split at h <;> simp at h
  · simp at h

/-- The boundary changes nothing but the inputs and the page-fault answers. -/
theorem passBoundary_eq (s : State) :
    ∃ p is, passBoundary s = (s.withPageFaults p).withInputs is := by
  unfold passBoundary
  cases h : s.inputs with
  | nil => exact ⟨s.pageFaults, s.inputs, rfl⟩
  | cons i is => exact ⟨_, _, rfl⟩

end Sys2Proof.Machine
end

