-- ==== Sys2Proof/Laws/Exec.lean ====
section
/-! SUPPORT. What `exec` answers on each family, as one equation per family over the rows of Reference.lean: the case split
over the constructors is done here once. -/

namespace Sys2Proof.Machine

open Ref

/-- The count operand as the byte the meanings take. -/
def countByte (s : State) : Count → Byte
  | .one => 1#8
  | .cl => s.cl
  | .imm b => b

theorem countByte_toNat (s : State) (c : Count) : (countByte s c).toNat = c.raw s := by cases c <;> rfl

theorem maskCount_countByte (s : State) (c : Count) : maskCount s.cfg.procGen (countByte s c) = shiftCount s c := by
  have h := countByte_toNat s c
  unfold maskCount shiftCount
  cases s.cfg.procGen <;> simp [BitVec.toNat_and, h, Nat.and_two_pow_sub_one_eq_mod _ 5]

theorem maskCount5_countByte (s : State) (c : Count) : maskCount5 (countByte s c) = c.raw s % 32 := by
  have h := countByte_toNat s c
  simp [maskCount5, BitVec.toNat_and, h, Nat.and_two_pow_sub_one_eq_mod _ 5]

theorem exec_shiftRow {i : Instr} {r : ShiftRow} (h : shiftRow i = some r) (s : State) :
    exec i s = shiftInstr r.w r.op r.dst (countByte s r.count) s := by
  cases i <;> first | (cases h; done) | (cases h; rfl)

theorem exec_dshiftRow {i : Instr} {r : DoubleShiftRow} (h : dshiftRow i = some r) (s : State) :
    exec i s = dshiftInstr r.w r.op r.dst r.src (countByte s r.count) s := by
  cases i <;> first | (cases h; done) | (cases h; rfl)

/-- The checks on a source operand. -/
def withSrcAccess {w : Width} (s : State) (src : Src w) (go : Result) : Result :=
  match src with
  | .imm _ => go
  | .rm r => withRmAccess s r w.bytes .read go

/-- Every row of SBB and SUB: the checks of its two operands, then one write and the flags; of its two operands at most
one is memory. -/
theorem exec_subRow {i : Instr} {r : SubRow} (h : subRow i = some r) (s : State) :
    exec i s = need32 s r.w (withRmAccess s r.dst r.w.bytes .readwrite (withSrcAccess s r.src
      (complete (((writeRm s r.w r.dst (subResult (readRm s r.w r.dst) (r.src.value s) (borrowIn r.carry s))).withFlags
        (subFlags s.flags (readRm s r.w r.dst) (r.src.value s) (borrowIn r.carry s))).spend
          (rmDraws r.dst + r.src.draws))))) := by
  cases i <;> first
    | (cases h; done)
    | (cases h; rfl)
    | (cases h; simp only [rmDraws, Src.draws, Nat.zero_add]; rfl)

theorem exec_scasRow {i : Instr} {w : Width} {asz : Size} (h : scasRow i = some (w, asz)) (s : State) :
    exec i s = scas w asz s := by
  cases i <;> first | (cases h; done) | (cases h; rfl)

theorem exec_stosRow {i : Instr} {w : Width} {asz : Size} (h : stosRow i = some (w, asz)) (s : State) :
    exec i s = stos w asz s := by
  cases i <;> first | (cases h; done) | (cases h; rfl)

theorem exec_setccRow {i : Instr} {cc : Nat} {dst : RM} (h : setccRow i = some (cc, dst)) (s : State) :
    exec i s = setcc (BitVec.ofNat 4 cc) dst s := by
  cases i <;> first | (cases h; done) | (cases h; rfl)

/-- The instructions by family: a row of one of the six families, or one of the thirteen others. -/
theorem instr_families (i : Instr) :
    (shiftRow i).isSome ∨ (dshiftRow i).isSome ∨ (subRow i).isSome ∨ (scasRow i).isSome ∨ (stosRow i).isSome ∨
      (setccRow i).isSome ∨ i = .sahf ∨ i = .stc ∨ i = .std ∨ i = .sti ∨ i = .sysenter ∨ i = .sysexit ∨
      (∃ osz dst, i = .sgdt osz dst) ∨ (∃ osz dst, i = .sidt osz dst) ∨ (∃ dst, i = .sldtRm16 dst) ∨
      (∃ dst, i = .sldtRm32 dst) ∨ (∃ dst, i = .smswRm16 dst) ∨ (∃ dst, i = .smswR32M16 dst) ∨
      ∃ osz dst, i = .strRm16 osz dst := by
  cases i <;> simp [shiftRow, dshiftRow, subRow, scasRow, stosRow, setccRow]

end Sys2Proof.Machine
end

