-- ==== Sys2Proof/Laws/Flags.lean ====
section
/-! SUPPORT. EFLAGS as a word, bit by bit. -/

namespace Sys2Proof.Machine

/-- Which flag each bit of EFLAGS is (10_state.md R30 to R32). -/
theorem Eflags.toWord_getLsbD (f : Eflags) (k : Nat) : f.toWord.getLsbD k =
    match k with
    | 0 => f.cf
    | 1 => true
    | 2 => f.pf
    | 4 => f.af
    | 6 => f.zf
    | 7 => f.sf
    | 8 => f.tf
    | 9 => f.ifl
    | 10 => f.df
    | 11 => f.ofl
    | 12 => f.iopl.getLsbD 0
    | 13 => f.iopl.getLsbD 1
    | 14 => f.nt
    | 16 => f.rf
    | 17 => f.vm
    | 18 => f.ac
    | 19 => f.vif
    | 20 => f.vip
    | 21 => f.idf
    | _ => false := by
  by_cases h : k < 22
  · interval_cases k <;> simp only [Eflags.toWord, BitVec.getLsbD_append] <;> simp
  · simp only [Eflags.toWord, BitVec.getLsbD_append]
    simp (disch := omega) only [if_neg]
    simp

end Sys2Proof.Machine
end

