-- ==== Sys2Proof/Laws/Frame.lean ====
section
/-! SUPPORT. What any instruction but STI, SYSENTER and SYSEXIT can change, said once: general registers, flags, memory, the
count of draws and IntShadow, which it clears. -/

namespace Sys2Proof.Machine

open Ref

/-- `t` is `s` with other registers, flags, memory and draws, and IntShadow clear; canonical memory stays canonical. -/
def ordinary (s t : State) (f : Eflags) : Prop :=
  ∃ g m d, t = ((((s.withGpr g).withFlags f).withMem m).withDraws d).withIntShadow false ∧
    (Mem.wf s.mem → Mem.wf m)

/-! ## The pieces -/

theorem writeRm_ordinary (s : State) (w : Width) (rm : RM) (v : BitVec w.bits) :
    ∃ g m, writeRm s w rm v = (s.withGpr g).withMem m ∧ (Mem.wf s.mem → Mem.wf m) := by
  cases rm with
  | reg n =>
    obtain ⟨g, hg⟩ := writeReg_eq_withGpr s w n v
    exact ⟨g, s.mem, by rw [show writeRm s w (.reg n) v = s.writeReg w n v from rfl, hg]; rfl, id⟩
  | mem m =>
    exact ⟨s.gpr, (s.writeLoc w (memLoc m s) v).mem, rfl, fun h => wf_writeLoc h w _ v⟩

theorem controlFlagsKept_subFlags {w : Nat} (f : Eflags) (a b : BitVec w) (cin : Bool) :
    controlFlagsKept f (subFlags f a b cin) := by simp [controlFlagsKept, subFlags, Eflags.ofResult]

theorem controlFlagsKept_shiftFlags {w : Nat} (f : Eflags) (op : ShiftOp) (d : BitVec w) (c : Nat) (x y z : Bool) :
    controlFlagsKept f (shiftFlags f op d c x y z) := by simp [controlFlagsKept, shiftFlags, Eflags.ofResult]

theorem controlFlagsKept_dshiftFlags {w : Nat} (f : Eflags) (op : DoubleShiftOp) (d src : BitVec w) (c : Nat)
    (x y : Bool) : controlFlagsKept f (dshiftFlags f op d src c x y) := by
  simp [controlFlagsKept, dshiftFlags, Eflags.ofResult]

theorem controlFlagsKept_undefinedFlags (f : Eflags) (a b c d e g : Bool) :
    controlFlagsKept f (undefinedFlags f a b c d e g) := by simp [controlFlagsKept, undefinedFlags]

theorem controlFlagsKept_refl (f : Eflags) : controlFlagsKept f f := by simp [controlFlagsKept]

/-- An `r/m` write, then flags, then draws, then completion. -/
theorem ordinary_writeRm (s : State) (w : Width) (rm : RM) (v : BitVec w.bits) (f : Eflags) (k : Nat) :
    ordinary s ((((writeRm s w rm v).withFlags f).spend k).withIntShadow false) f := by
  obtain ⟨g, m, hw, hm⟩ := writeRm_ordinary s w rm v
  exact ⟨g, m, s.draws + k, by rw [hw]; rfl, hm⟩

theorem ordinary_unchanged (s : State) : ordinary s (s.withIntShadow false) s.flags :=
  ⟨s.gpr, s.mem, s.draws, rfl, id⟩

theorem shiftInstr_ordinary {w : Width} {op : ShiftOp} {dst : RM} {raw : Byte} {s t : State}
    (h : shiftInstr w op dst raw s = .next t) : ∃ f, ordinary s t f ∧ controlFlagsKept s.flags f := by
  rcases shiftInstr_next h with ⟨_, rfl⟩ | ⟨_, rfl⟩
  · exact ⟨_, ordinary_unchanged s, controlFlagsKept_refl _⟩
  · exact ⟨_, ordinary_writeRm s w dst _ _ 3, controlFlagsKept_shiftFlags ..⟩

theorem dshiftInstr_ordinary {w : Width} {op : DoubleShiftOp} {dst : RM} {src : RegNum} {raw : Byte} {s t : State}
    (h : dshiftInstr w op dst src raw s = .next t) : ∃ f, ordinary s t f ∧ controlFlagsKept s.flags f := by
  rcases dshiftInstr_next h with ⟨_, rfl⟩ | ⟨_, _, rfl⟩ | ⟨_, _, rfl⟩
  · exact ⟨_, ordinary_unchanged s, controlFlagsKept_refl _⟩
  · exact ⟨_, ordinary_writeRm s w dst _ _ 7, controlFlagsKept_undefinedFlags ..⟩
  · exact ⟨_, ordinary_writeRm s w dst _ _ 2, controlFlagsKept_dshiftFlags ..⟩

theorem withSrcAccess_next {w : Width} {s t : State} {src : Src w} {go : Result}
    (h : withSrcAccess s src go = .next t) : go = .next t := by
  cases src with
  | imm v => exact h
  | rm r => exact (withRmAccess_next h).2

theorem subRow_ordinary {i : Instr} {r : SubRow} {s t : State} (hr : subRow i = some r) (h : exec i s = .next t) :
    ∃ f, ordinary s t f ∧ controlFlagsKept s.flags f := by
  rw [exec_subRow hr] at h
  have h := (complete_next _ _).mp (withSrcAccess_next (withRmAccess_next (need32_next h).2).2)
  rw [h]
  exact ⟨_, ordinary_writeRm s r.w r.dst _ _ _, controlFlagsKept_subFlags ..⟩

theorem scas_ordinary {w : Width} {asz : Size} {s t : State} (h : scas w asz s = .next t) :
    ∃ f, ordinary s t f ∧ controlFlagsKept s.flags f := by
  rw [scas_next h]
  obtain ⟨g, hg, _⟩ := stepDi_eq (s.withFlags
    (subFlags s.flags (s.readReg w 0#3) (s.readLoc w (stringLoc s asz)) false)) asz w
  exact ⟨_, ⟨g, s.mem, s.draws + 1, by rw [hg]; rfl, id⟩, controlFlagsKept_subFlags ..⟩

theorem stos_ordinary {w : Width} {asz : Size} {s t : State} (h : stos w asz s = .next t) :
    ∃ f, ordinary s t f ∧ controlFlagsKept s.flags f := by
  rw [stos_next h]
  obtain ⟨g, hg, _⟩ := stepDi_eq (s.writeLoc w (stringLoc s asz) (s.readReg w 0#3)) asz w
  exact ⟨s.flags, ⟨g, (s.writeLoc w (stringLoc s asz) (s.readReg w 0#3)).mem, s.draws, by rw [hg]; rfl,
    fun hm => wf_writeLoc hm w _ _⟩, controlFlagsKept_refl _⟩

theorem setcc_ordinary {cc : BitVec 4} {dst : RM} {s t : State} (h : setcc cc dst s = .next t) :
    ∃ f, ordinary s t f ∧ controlFlagsKept s.flags f := by
  rw [setcc_next h]
  obtain ⟨g, m, hw, hm⟩ := writeRm_ordinary s .w8 dst (if condHolds cc s.flags then 1#8 else 0#8)
  exact ⟨s.flags, ⟨g, m, s.draws, by rw [hw]; rfl, hm⟩, controlFlagsKept_refl _⟩

theorem storeTable_ordinary {r : TableReg} {osz : Size} {dst : RM} {s t : State} (h : storeTable r osz dst s = .next t) :
    ∃ f, ordinary s t f ∧ controlFlagsKept s.flags f := by
  obtain ⟨m, _, _, _, rfl⟩ := storeTable_next h
  exact ⟨s.flags, ⟨s.gpr, (s.storeBytes (memLoc m s) (tableRegBytes osz s.cfg.procGen r)).mem, s.draws, rfl,
    fun hm => wf_storeBytes hm _ _⟩, controlFlagsKept_refl _⟩

theorem storeWord_ordinary {dst : RM} {v : Word16} {s t : State} (h : storeWord dst v s = .next t) :
    ∃ f, ordinary s t f ∧ controlFlagsKept s.flags f := by
  rw [storeWord_next h]
  obtain ⟨g, m, hw, hm⟩ := writeRm_ordinary s .w16 dst v
  exact ⟨s.flags, ⟨g, m, s.draws, by rw [hw]; rfl, hm⟩, controlFlagsKept_refl _⟩

theorem storeWordHigh_ordinary {dst : RM} {high v : Word16} {d : Nat} {s t : State}
    (h : storeWordHigh dst high v d s = .next t) : ∃ f, ordinary s t f ∧ controlFlagsKept s.flags f := by
  rcases storeWordHigh_next h with ⟨n, rfl, rfl⟩ | ⟨m, rfl, rfl⟩
  · exact ⟨s.flags, ⟨(s.setReg32 n (high ++ v)).gpr, s.mem, s.draws + d, rfl, id⟩, controlFlagsKept_refl _⟩
  · exact storeWord_ordinary (dst := .mem m) (v := v) h

/-! ## Every instruction -/

/-- Whatever completes but STI, SYSENTER and SYSEXIT changes only registers, flags, memory, draws and IntShadow; of the
control flags only STD changes one, DF. -/
theorem exec_ordinary {i : Instr} {s t : State} (h : exec i s = .next t) (h1 : i ≠ .sti) (h2 : i ≠ .sysenter)
    (h3 : i ≠ .sysexit) :
    ∃ f, ordinary s t f ∧ (i ≠ .std → controlFlagsKept s.flags f) ∧
      (i = .std → f = { s.flags with df := true }) := by
  have key : (∃ f, ordinary s t f ∧ controlFlagsKept s.flags f) → i ≠ .std →
      ∃ f, ordinary s t f ∧ (i ≠ .std → controlFlagsKept s.flags f) ∧
        (i = .std → f = { s.flags with df := true }) :=
    fun ⟨f, ho, hc⟩ hn => ⟨f, ho, fun _ => hc, fun e => absurd e hn⟩
  have hc := instr_families i
  simp only [Option.isSome_iff_exists] at hc
  rcases hc with ⟨r, hr⟩ | ⟨r, hr⟩ | ⟨r, hr⟩ | ⟨⟨w, asz⟩, hr⟩ | ⟨⟨w, asz⟩, hr⟩ | ⟨⟨cc, dst⟩, hr⟩ | hc
  · rw [exec_shiftRow hr] at h
    exact key (shiftInstr_ordinary h) (by rintro rfl; cases hr)
  · rw [exec_dshiftRow hr] at h
    exact key (dshiftInstr_ordinary h) (by rintro rfl; cases hr)
  · exact key (subRow_ordinary hr h) (by rintro rfl; cases hr)
  · rw [exec_scasRow hr] at h
    exact key (scas_ordinary h) (by rintro rfl; cases hr)
  · rw [exec_stosRow hr] at h
    exact key (stos_ordinary h) (by rintro rfl; cases hr)
  · rw [exec_setccRow hr] at h
    exact key (setcc_ordinary h) (by rintro rfl; cases hr)
  · rcases hc with rfl | rfl | rfl | rfl | rfl | rfl | ⟨osz, dst, rfl⟩ | ⟨osz, dst, rfl⟩ | ⟨dst, rfl⟩ | ⟨dst, rfl⟩ |
      ⟨dst, rfl⟩ | ⟨dst, rfl⟩ | ⟨osz, dst, rfl⟩
    · change complete _ = _ at h
      exact key ⟨sahfFlags s.flags (s.readReg .w8 4#3), ⟨s.gpr, s.mem, s.draws, (complete_next _ _).mp h, id⟩,
        by simp [controlFlagsKept, sahfFlags]⟩ (by simp)
    · change complete _ = _ at h
      exact key ⟨{ s.flags with cf := true }, ⟨s.gpr, s.mem, s.draws, (complete_next _ _).mp h, id⟩,
        by simp [controlFlagsKept]⟩ (by simp)
    · change complete _ = _ at h
      exact ⟨{ s.flags with df := true }, ⟨s.gpr, s.mem, s.draws, (complete_next _ _).mp h, id⟩, by simp, fun _ => rfl⟩
    · exact absurd rfl h1
    · exact absurd rfl h2
    · exact absurd rfl h3
    · exact key (storeTable_ordinary (r := s.gdtr) (osz := osz) (dst := dst) h) (by simp)
    · exact key (storeTable_ordinary (r := s.idtr) (osz := osz) (dst := dst) h) (by simp)
    · exact key (storeWord_ordinary (protectedOnly_next h).2) (by simp)
    · refine key ?_ (by simp)
      have h := (protectedOnly_next (need32_next h).2).2
      split at h
      · exact storeWordHigh_ordinary h
      · exact storeWordHigh_ordinary h
    · exact key (storeWord_ordinary (dst := dst) (v := s.cr0.extractLsb' 0 16) h) (by simp)
    · exact key (storeWordHigh_ordinary (high := s.draw 16 0) (v := s.cr0.extractLsb' 0 16) (d := 1) (dst := dst) h) (by simp)
    · refine key ?_ (by simp)
      have h := (protectedOnly_next h).2
      cases osz
      · exact storeWord_ordinary h
      · exact storeWordHigh_ordinary h

end Sys2Proof.Machine
end

