-- ==== Sys2Proof/Laws/Operands.lean ====
section
/-! SUPPORT. What a write to an operand leaves: the value there, and every register bit and memory byte outside it; the step of
(E)DI; and what each check can raise. -/

namespace Sys2Proof.Machine

open Ref

/-! ## Reads that a state change does not touch -/

theorem Loc.lin_congr {s t : State} (l : Loc) (h : ∀ x, t.seg x = s.seg x) (k : Nat) : l.lin t k = l.lin s k := by
  simp [Loc.lin, h]

/-- An operand reads alike where segments, memory and the count of draws are alike. -/
theorem readLoc_congr {s t : State} (w : Width) (l : Loc) (h : ∀ x, t.seg x = s.seg x) (hm : t.mem = s.mem)
    (hd : t.draws = s.draws) : t.readLoc w l = s.readLoc w l := by
  cases w <;> simp [State.readLoc, State.byteAt, State.heldAt, Loc.lin_congr l h, hm, hd]

/-- Where segments and memory are those after a `MemWrite`, the operand reads as the value written, whatever draw the read
takes. -/
theorem readsAs_of_writeLoc {s t : State} {w : Width} {l : Loc} {v : BitVec w.bits} (h : ∀ x, t.seg x = s.seg x)
    (hm : t.mem = (s.writeLoc w l v).mem) : readsAs t w l v := fun n =>
  readLoc_of_heldAt fun j hj => by
    rw [State.withDraws_lin, Loc.lin_congr l h]
    have := heldAt_writeLoc s w l v j hj
    unfold State.heldAt at this ⊢
    rw [← this, State.withDraws_mem, hm]

theorem readReg_congr {s t : State} (w : Width) (n : RegNum) (h : t.gpr = s.gpr) : t.readReg w n = s.readReg w n := by
  cases w <;> simp [State.readReg, State.reg32, h]

/-! ## Operand writes -/

theorem byteHome_high : ∀ n : RegNum, n.getLsbD 2 = true → 4 ≤ n.toNat ∧ (n - 4#3).toNat + 4 = n.toNat := by decide

theorem byteHome_low : ∀ n : RegNum, n.getLsbD 2 = false → n.toNat < 4 := by decide

/-- A register write changes no register bit outside the register written. -/
theorem writeReg_regsKeptOutside (s : State) (w : Width) (n : RegNum) (v : BitVec w.bits) :
    regsKeptOutside s (s.writeReg w n v) w n := by
  intro k j hnot
  by_cases hb : k = if w = .w8 then byteHome n else n
  · subst hb
    cases w with
    | w8 =>
      simp only [State.writeReg, if_true, reg32_setReg32_self]
      cases h : n.getLsbD 2
      · rw [if_neg (by simp), getLsbD_putLow8, if_neg]
        exact fun hj => hnot (.inl ⟨byteHome_low n h, by simp only [byteHome, h]; rfl, hj⟩)
      · rw [if_pos rfl, getLsbD_putHigh8, if_neg]
        exact fun hj => hnot (.inr ⟨(byteHome_high n h).1, by simp only [byteHome, h, if_true]; exact (byteHome_high n h).2,
          hj.1, hj.2⟩)
    | w16 =>
      change (((s.writeReg .w16 n v)).reg32 n).getLsbD j = (s.reg32 n).getLsbD j
      simp only [State.writeReg, reg32_setReg32_self, getLsbD_putLow16]
      rw [if_neg]
      exact fun hj => hnot ⟨rfl, hj⟩
    | w32 =>
      have hj : ¬ j < 32 := fun hj => hnot ⟨rfl, hj⟩
      rw [BitVec.getLsbD_of_ge _ _ (by omega), BitVec.getLsbD_of_ge _ _ (by omega)]
  · rw [reg32_writeReg_ne _ _ _ _ _ hb]

/-- An `r/m` write, then any flags and draws, then completion: the destination holds the value, and nothing of the system
changes. -/
theorem writeRm_holds (s : State) (w : Width) (rm : RM) (v : BitVec w.bits) (f : Eflags) (d : Nat) :
    completes s ((((writeRm s w rm v).withFlags f).withDraws d).withIntShadow false) ∧
      dstHolds s ((((writeRm s w rm v).withFlags f).withDraws d).withIntShadow false) w rm v := by
  constructor
  · obtain ⟨g, m, h, _⟩ := writeRm_ordinary s w rm v
    rw [h]
    simp [completes, systemKept, ringKept]
  · cases rm with
    | reg n =>
      refine ⟨?_, writeReg_regsKeptOutside s w n v, ?_⟩
      · exact (readReg_congr w n (s := s.writeReg w n v) rfl).trans (readReg_writeReg ..)
      · obtain ⟨g, h⟩ := writeReg_eq_withGpr s w n v
        intro a
        simp [writeRm, h]
    | mem m =>
      exact ⟨readsAs_of_writeLoc (fun x => by cases x <;> rfl) rfl, fun _ => rfl,
        fun a h => heldAt_writeLoc_outside s w (memLoc m s) v a h⟩

/-- What an `r/m` write leaves of the fields it does not write. -/
theorem writeRm_fields (s : State) (w : Width) (rm : RM) (v : BitVec w.bits) :
    (writeRm s w rm v).flags = s.flags ∧ (writeRm s w rm v).draws = s.draws ∧ (writeRm s w rm v).cfg = s.cfg := by
  obtain ⟨g, m, h, _⟩ := writeRm_ordinary s w rm v
  rw [h]
  exact ⟨rfl, rfl, rfl⟩

/-! ## The checks -/

/-- Everything a failing check can be. -/
theorem checkAccess_some {s : State} {l : Loc} {n : Nat} {k : AccessKind} {e : Exception} (h : checkAccess s l n k = some e) :
    (e = .gp (some 0) ∧ s.mode = .protectedMode) ∨ (e = .ss (limitCode s.mode) ∧ l.seg = .ss) ∨
      (e = .gp (limitCode s.mode) ∧ l.seg ≠ .ss) ∨
      (e = .ac 0 ∧ s.mode ≠ .realAddress ∧ s.alignmentCheckApplies (l.lin s 0) n = true) ∨
      ∃ p, e = .pf p.code p.faultLin ∧ s.mode ≠ .realAddress ∧ s.pageFault (l.lin s 0) n k = some p := by
  unfold checkAccess at h
  split at h
  · rename_i hc
    simp only [State.nullCheck, Bool.and_eq_true, beq_iff_eq] at hc
    exact .inl ⟨(Option.some.inj h).symm, hc.1.1.1⟩
  · split at h
    · rename_i hc
      simp only [State.writeCheck, Bool.and_eq_true, beq_iff_eq] at hc
      exact .inl ⟨(Option.some.inj h).symm, hc.1.1⟩
    · split at h
      · split at h
        · rename_i hs
          exact .inr (.inl ⟨(Option.some.inj h).symm, hs⟩)
        · rename_i hs
          exact .inr (.inr (.inl ⟨(Option.some.inj h).symm, hs⟩))
      · split at h
        · cases h
        · rename_i hm
          split at h
          · rename_i ha
            exact .inr (.inr (.inr (.inl ⟨(Option.some.inj h).symm, hm, ha⟩)))
          · obtain ⟨p, hp, he⟩ := Option.map_eq_some_iff.mp h
            exact .inr (.inr (.inr (.inr ⟨p, he.symm, hm, hp⟩)))

/-- In real-address mode a check does not look at the page-fault answers. -/
theorem checkAccess_real (s : State) (p : List PageFaultEntry) (l : Loc) (n : Nat) (k : AccessKind)
    (h : s.mode = .realAddress) : checkAccess (s.withPageFaults p) l n k = checkAccess s l n k := by
  have hm : (s.withPageFaults p).mode = s.mode := rfl
  unfold checkAccess
  rw [hm, if_pos h, if_pos h]
  rfl

/-! ## Stops that are not faults -/

theorem withAccess_refused {s : State} {l : Loc} {n : Nat} {k : AccessKind} {go : Result} {r : Refusal}
    (h : withAccess s l n k go = .refused r) : checkAccess s l n k = none ∧ go = .refused r := by
  unfold withAccess at h
  cases hc : checkAccess s l n k with
  | none => rw [hc] at h; exact ⟨rfl, h⟩
  | some e => rw [hc] at h; simp at h

theorem withRmAccess_refused {s : State} {rm : RM} {n : Nat} {k : AccessKind} {go : Result} {r : Refusal}
    (h : withRmAccess s rm n k go = .refused r) : go = .refused r := by
  cases rm with
  | reg _ => exact h
  | mem m => exact (withAccess_refused h).2

theorem need32_refused {s : State} {w : Width} {go : Result} {r : Refusal} (h : need32 s w go = .refused r) :
    (r = .no32BitOperands ∧ w = .w32 ∧ s.cfg.procGen.has32 = false) ∨ go = .refused r := by
  unfold need32 at h
  split at h
  · rename_i hc
    exact .inl ⟨(Host.Outcome.refused.inj h).symm, hc⟩
  · exact .inr h

end Sys2Proof.Machine
end

