-- ==== Sys2Proof/Laws/PerInstr.lean ====
section
/-! SUPPORT. A fact about every instruction as syntax, one lemma per constructor: the encoder writes 1 to 14 bytes, so no
instruction it writes reaches the limit of 30_encoding.md R118. -/

namespace Sys2Proof.Laws

/-- The bytes of a ModR/M operand: the ModR/M byte, at most a SIB byte and four displacement bytes. -/
theorem rm_bytes_length (reg : RegNum) (rm : RM) : 1 ≤ (rm.bytes reg).length ∧ (rm.bytes reg).length ≤ 6 := by
  cases rm with
  | reg n => simp [RM.bytes]
  | mem m =>
    obtain ⟨ea, ov⟩ := m
    cases ea with
    | a16 a =>
      cases a with
      | base b d => cases d <;> simp [RM.bytes, Addr16.bytes, Disp16.bytes, le16]
      | direct d => simp [RM.bytes, Addr16.bytes, le16]
    | a32 a =>
      cases a with
      | base b d => cases d <;> simp [RM.bytes, Addr32.bytes, Disp32.bytes, le32]
      | direct d => simp [RM.bytes, Addr32.bytes, le32]
      | sib sc ix b d => cases d <;> simp [RM.bytes, Addr32.bytes, Disp32.bytes, le32]
      | sibNoBase sc ix d => simp [RM.bytes, Addr32.bytes, le32]

theorem os_bytes_length (d o : Size) : (osBytes d o).length ≤ 1 := by unfold osBytes; split <;> simp

theorem as_bytes_length (d a : Size) : (asBytes d a).length ≤ 1 := by unfold asBytes; split <;> simp

theorem rm_pre_length (d : Size) (rm : RM) : (rm.pre d).length ≤ 2 := by
  cases rm with
  | reg n => simp [RM.pre]
  | mem m =>
    have := as_bytes_length d m.ea.size
    cases h : m.override <;> simp [RM.pre, h] <;> omega

theorem enc8_length (d : Size) (op : List Byte) (reg : RegNum) (rm : RM) (imm : List Byte) :
    op.length + 1 + imm.length ≤ (enc8 d op reg rm imm).length ∧
      (enc8 d op reg rm imm).length ≤ op.length + imm.length + 8 := by
  have h1 := rm_bytes_length reg rm
  have h2 := rm_pre_length d rm
  simp only [enc8, List.length_append]
  omega

theorem encW_length (d o : Size) (op : List Byte) (reg : RegNum) (rm : RM) (imm : List Byte) :
    op.length + 1 + imm.length ≤ (encW d o op reg rm imm).length ∧
      (encW d o op reg rm imm).length ≤ op.length + imm.length + 9 := by
  have h1 := enc8_length d op reg rm imm
  have h2 := os_bytes_length d o
  simp only [encW, List.length_append]
  omega

theorem enc8_ok (d : Size) (op : List Byte) (reg : RegNum) (rm : RM) (imm : List Byte) (h : op.length + imm.length ≤ 5) :
    1 ≤ (enc8 d op reg rm imm).length ∧ (enc8 d op reg rm imm).length ≤ 14 := by
  have := enc8_length d op reg rm imm
  omega

theorem encW_ok (d o : Size) (op : List Byte) (reg : RegNum) (rm : RM) (imm : List Byte) (h : op.length + imm.length ≤ 5) :
    1 ≤ (encW d o op reg rm imm).length ∧ (encW d o op reg rm imm).length ≤ 14 := by
  have := encW_length d o op reg rm imm
  omega

namespace EncodedLength

/-- Under either default size, the encoder writes 1 to 14 bytes. -/
def Statement (i : Instr) : Prop := ∀ dflt : Size, 1 ≤ (encode dflt i).length ∧ (encode dflt i).length ≤ 14

theorem sahf : Statement (.sahf) := fun d => by
  simp [encode]

theorem salRm8One (dst : RM) : Statement (.salRm8One dst) := fun d => by
  exact enc8_ok d _ _ _ _ (by simp)

theorem salRm8Cl (dst : RM) : Statement (.salRm8Cl dst) := fun d => by
  exact enc8_ok d _ _ _ _ (by simp)

theorem salRm8Imm8 (dst : RM) (imm : Byte) : Statement (.salRm8Imm8 dst imm) := fun d => by
  exact enc8_ok d _ _ _ _ (by simp)

theorem salRm16One (dst : RM) : Statement (.salRm16One dst) := fun d => by
  exact encW_ok d _ _ _ _ _ (by simp)

theorem salRm16Cl (dst : RM) : Statement (.salRm16Cl dst) := fun d => by
  exact encW_ok d _ _ _ _ _ (by simp)

theorem salRm16Imm8 (dst : RM) (imm : Byte) : Statement (.salRm16Imm8 dst imm) := fun d => by
  exact encW_ok d _ _ _ _ _ (by simp)

theorem salRm32One (dst : RM) : Statement (.salRm32One dst) := fun d => by
  exact encW_ok d _ _ _ _ _ (by simp)

theorem salRm32Cl (dst : RM) : Statement (.salRm32Cl dst) := fun d => by
  exact encW_ok d _ _ _ _ _ (by simp)

theorem salRm32Imm8 (dst : RM) (imm : Byte) : Statement (.salRm32Imm8 dst imm) := fun d => by
  exact encW_ok d _ _ _ _ _ (by simp)

theorem sarRm8One (dst : RM) : Statement (.sarRm8One dst) := fun d => by
  exact enc8_ok d _ _ _ _ (by simp)

theorem sarRm8Cl (dst : RM) : Statement (.sarRm8Cl dst) := fun d => by
  exact enc8_ok d _ _ _ _ (by simp)

theorem sarRm8Imm8 (dst : RM) (imm : Byte) : Statement (.sarRm8Imm8 dst imm) := fun d => by
  exact enc8_ok d _ _ _ _ (by simp)

theorem sarRm16One (dst : RM) : Statement (.sarRm16One dst) := fun d => by
  exact encW_ok d _ _ _ _ _ (by simp)

theorem sarRm16Cl (dst : RM) : Statement (.sarRm16Cl dst) := fun d => by
  exact encW_ok d _ _ _ _ _ (by simp)

theorem sarRm16Imm8 (dst : RM) (imm : Byte) : Statement (.sarRm16Imm8 dst imm) := fun d => by
  exact encW_ok d _ _ _ _ _ (by simp)

theorem sarRm32One (dst : RM) : Statement (.sarRm32One dst) := fun d => by
  exact encW_ok d _ _ _ _ _ (by simp)

theorem sarRm32Cl (dst : RM) : Statement (.sarRm32Cl dst) := fun d => by
  exact encW_ok d _ _ _ _ _ (by simp)

theorem sarRm32Imm8 (dst : RM) (imm : Byte) : Statement (.sarRm32Imm8 dst imm) := fun d => by
  exact encW_ok d _ _ _ _ _ (by simp)

theorem shlRm8One (dst : RM) : Statement (.shlRm8One dst) := fun d => by
  exact enc8_ok d _ _ _ _ (by simp)

theorem shlRm8Cl (dst : RM) : Statement (.shlRm8Cl dst) := fun d => by
  exact enc8_ok d _ _ _ _ (by simp)

theorem shlRm8Imm8 (dst : RM) (imm : Byte) : Statement (.shlRm8Imm8 dst imm) := fun d => by
  exact enc8_ok d _ _ _ _ (by simp)

theorem shlRm16One (dst : RM) : Statement (.shlRm16One dst) := fun d => by
  exact encW_ok d _ _ _ _ _ (by simp)

theorem shlRm16Cl (dst : RM) : Statement (.shlRm16Cl dst) := fun d => by
  exact encW_ok d _ _ _ _ _ (by simp)

theorem shlRm16Imm8 (dst : RM) (imm : Byte) : Statement (.shlRm16Imm8 dst imm) := fun d => by
  exact encW_ok d _ _ _ _ _ (by simp)

theorem shlRm32One (dst : RM) : Statement (.shlRm32One dst) := fun d => by
  exact encW_ok d _ _ _ _ _ (by simp)

theorem shlRm32Cl (dst : RM) : Statement (.shlRm32Cl dst) := fun d => by
  exact encW_ok d _ _ _ _ _ (by simp)

theorem shlRm32Imm8 (dst : RM) (imm : Byte) : Statement (.shlRm32Imm8 dst imm) := fun d => by
  exact encW_ok d _ _ _ _ _ (by simp)

theorem shrRm8One (dst : RM) : Statement (.shrRm8One dst) := fun d => by
  exact enc8_ok d _ _ _ _ (by simp)

theorem shrRm8Cl (dst : RM) : Statement (.shrRm8Cl dst) := fun d => by
  exact enc8_ok d _ _ _ _ (by simp)

theorem shrRm8Imm8 (dst : RM) (imm : Byte) : Statement (.shrRm8Imm8 dst imm) := fun d => by
  exact enc8_ok d _ _ _ _ (by simp)

theorem shrRm16One (dst : RM) : Statement (.shrRm16One dst) := fun d => by
  exact encW_ok d _ _ _ _ _ (by simp)

theorem shrRm16Cl (dst : RM) : Statement (.shrRm16Cl dst) := fun d => by
  exact encW_ok d _ _ _ _ _ (by simp)

theorem shrRm16Imm8 (dst : RM) (imm : Byte) : Statement (.shrRm16Imm8 dst imm) := fun d => by
  exact encW_ok d _ _ _ _ _ (by simp)

theorem shrRm32One (dst : RM) : Statement (.shrRm32One dst) := fun d => by
  exact encW_ok d _ _ _ _ _ (by simp)

theorem shrRm32Cl (dst : RM) : Statement (.shrRm32Cl dst) := fun d => by
  exact encW_ok d _ _ _ _ _ (by simp)

theorem shrRm32Imm8 (dst : RM) (imm : Byte) : Statement (.shrRm32Imm8 dst imm) := fun d => by
  exact encW_ok d _ _ _ _ _ (by simp)

theorem sbbAlImm8 (imm : Byte) : Statement (.sbbAlImm8 imm) := fun d => by
  simp [encode]

theorem sbbAxImm16 (imm : Word16) : Statement (.sbbAxImm16 imm) := fun d => by
  have := os_bytes_length d .s16
  simp only [encode, List.length_append, List.length_cons, le16, List.length_nil]
  omega

theorem sbbEaxImm32 (imm : Word32) : Statement (.sbbEaxImm32 imm) := fun d => by
  have := os_bytes_length d .s32
  simp only [encode, List.length_append, List.length_cons, le32, List.length_nil]
  omega

theorem sbbRm8Imm8 (dst : RM) (imm : Byte) : Statement (.sbbRm8Imm8 dst imm) := fun d => by
  exact enc8_ok d _ _ _ _ (by simp)

theorem sbbRm16Imm16 (dst : RM) (imm : Word16) : Statement (.sbbRm16Imm16 dst imm) := fun d => by
  exact encW_ok d _ _ _ _ _ (by simp [le16])

theorem sbbRm32Imm32 (dst : RM) (imm : Word32) : Statement (.sbbRm32Imm32 dst imm) := fun d => by
  exact encW_ok d _ _ _ _ _ (by simp [le32])

theorem sbbRm16Imm8 (dst : RM) (imm : Byte) : Statement (.sbbRm16Imm8 dst imm) := fun d => by
  exact encW_ok d _ _ _ _ _ (by simp)

theorem sbbRm32Imm8 (dst : RM) (imm : Byte) : Statement (.sbbRm32Imm8 dst imm) := fun d => by
  exact encW_ok d _ _ _ _ _ (by simp)

theorem sbbRm8R8 (dst : RM) (src : RegNum) : Statement (.sbbRm8R8 dst src) := fun d => by
  exact enc8_ok d _ _ _ _ (by simp)

theorem sbbRm16R16 (dst : RM) (src : RegNum) : Statement (.sbbRm16R16 dst src) := fun d => by
  exact encW_ok d _ _ _ _ _ (by simp)

theorem sbbRm32R32 (dst : RM) (src : RegNum) : Statement (.sbbRm32R32 dst src) := fun d => by
  exact encW_ok d _ _ _ _ _ (by simp)

theorem sbbR8Rm8 (dst : RegNum) (src : RM) : Statement (.sbbR8Rm8 dst src) := fun d => by
  exact enc8_ok d _ _ _ _ (by simp)

theorem sbbR16Rm16 (dst : RegNum) (src : RM) : Statement (.sbbR16Rm16 dst src) := fun d => by
  exact encW_ok d _ _ _ _ _ (by simp)

theorem sbbR32Rm32 (dst : RegNum) (src : RM) : Statement (.sbbR32Rm32 dst src) := fun d => by
  exact encW_ok d _ _ _ _ _ (by simp)

theorem scasM8 (asz : Size) : Statement (.scasM8 asz) := fun d => by
  have := as_bytes_length d asz
  simp only [encode, List.length_append, List.length_cons, List.length_nil]
  omega

theorem scasM16 (asz : Size) : Statement (.scasM16 asz) := fun d => by
  have := as_bytes_length d asz
  have := os_bytes_length d .s16
  simp only [encode, List.length_append, List.length_cons, List.length_nil]
  omega

theorem scasM32 (asz : Size) : Statement (.scasM32 asz) := fun d => by
  have := as_bytes_length d asz
  have := os_bytes_length d .s32
  simp only [encode, List.length_append, List.length_cons, List.length_nil]
  omega

theorem scasb (asz : Size) : Statement (.scasb asz) := fun d => by
  have := as_bytes_length d asz
  simp only [encode, List.length_append, List.length_cons, List.length_nil]
  omega

theorem scasw (asz : Size) : Statement (.scasw asz) := fun d => by
  have := as_bytes_length d asz
  have := os_bytes_length d .s16
  simp only [encode, List.length_append, List.length_cons, List.length_nil]
  omega

theorem scasd (asz : Size) : Statement (.scasd asz) := fun d => by
  have := as_bytes_length d asz
  have := os_bytes_length d .s32
  simp only [encode, List.length_append, List.length_cons, List.length_nil]
  omega

theorem seta (dst : RM) : Statement (.seta dst) := fun d => by
  exact enc8_ok d _ _ _ _ (by simp)

theorem setae (dst : RM) : Statement (.setae dst) := fun d => by
  exact enc8_ok d _ _ _ _ (by simp)

theorem setb (dst : RM) : Statement (.setb dst) := fun d => by
  exact enc8_ok d _ _ _ _ (by simp)

theorem setbe (dst : RM) : Statement (.setbe dst) := fun d => by
  exact enc8_ok d _ _ _ _ (by simp)

theorem setc (dst : RM) : Statement (.setc dst) := fun d => by
  exact enc8_ok d _ _ _ _ (by simp)

theorem sete (dst : RM) : Statement (.sete dst) := fun d => by
  exact enc8_ok d _ _ _ _ (by simp)

theorem setg (dst : RM) : Statement (.setg dst) := fun d => by
  exact enc8_ok d _ _ _ _ (by simp)

theorem setge (dst : RM) : Statement (.setge dst) := fun d => by
  exact enc8_ok d _ _ _ _ (by simp)

theorem setl (dst : RM) : Statement (.setl dst) := fun d => by
  exact enc8_ok d _ _ _ _ (by simp)

theorem setle (dst : RM) : Statement (.setle dst) := fun d => by
  exact enc8_ok d _ _ _ _ (by simp)

theorem setna (dst : RM) : Statement (.setna dst) := fun d => by
  exact enc8_ok d _ _ _ _ (by simp)

theorem setnae (dst : RM) : Statement (.setnae dst) := fun d => by
  exact enc8_ok d _ _ _ _ (by simp)

theorem setnb (dst : RM) : Statement (.setnb dst) := fun d => by
  exact enc8_ok d _ _ _ _ (by simp)

theorem setnbe (dst : RM) : Statement (.setnbe dst) := fun d => by
  exact enc8_ok d _ _ _ _ (by simp)

theorem setnc (dst : RM) : Statement (.setnc dst) := fun d => by
  exact enc8_ok d _ _ _ _ (by simp)

theorem setne (dst : RM) : Statement (.setne dst) := fun d => by
  exact enc8_ok d _ _ _ _ (by simp)

theorem setng (dst : RM) : Statement (.setng dst) := fun d => by
  exact enc8_ok d _ _ _ _ (by simp)

theorem setnge (dst : RM) : Statement (.setnge dst) := fun d => by
  exact enc8_ok d _ _ _ _ (by simp)

theorem setnl (dst : RM) : Statement (.setnl dst) := fun d => by
  exact enc8_ok d _ _ _ _ (by simp)

theorem setnle (dst : RM) : Statement (.setnle dst) := fun d => by
  exact enc8_ok d _ _ _ _ (by simp)

theorem setno (dst : RM) : Statement (.setno dst) := fun d => by
  exact enc8_ok d _ _ _ _ (by simp)

theorem setnp (dst : RM) : Statement (.setnp dst) := fun d => by
  exact enc8_ok d _ _ _ _ (by simp)

theorem setns (dst : RM) : Statement (.setns dst) := fun d => by
  exact enc8_ok d _ _ _ _ (by simp)

theorem setnz (dst : RM) : Statement (.setnz dst) := fun d => by
  exact enc8_ok d _ _ _ _ (by simp)

theorem seto (dst : RM) : Statement (.seto dst) := fun d => by
  exact enc8_ok d _ _ _ _ (by simp)

theorem setp (dst : RM) : Statement (.setp dst) := fun d => by
  exact enc8_ok d _ _ _ _ (by simp)

theorem setpe (dst : RM) : Statement (.setpe dst) := fun d => by
  exact enc8_ok d _ _ _ _ (by simp)

theorem setpo (dst : RM) : Statement (.setpo dst) := fun d => by
  exact enc8_ok d _ _ _ _ (by simp)

theorem sets (dst : RM) : Statement (.sets dst) := fun d => by
  exact enc8_ok d _ _ _ _ (by simp)

theorem setz (dst : RM) : Statement (.setz dst) := fun d => by
  exact enc8_ok d _ _ _ _ (by simp)

theorem sgdt (osz : Size) (dst : RM) : Statement (.sgdt osz dst) := fun d => by
  exact encW_ok d _ _ _ _ _ (by simp)

theorem sidt (osz : Size) (dst : RM) : Statement (.sidt osz dst) := fun d => by
  exact encW_ok d _ _ _ _ _ (by simp)

theorem shldRm16R16Imm8 (dst : RM) (src : RegNum) (imm : Byte) : Statement (.shldRm16R16Imm8 dst src imm) := fun d => by
  exact encW_ok d _ _ _ _ _ (by simp)

theorem shldRm16R16Cl (dst : RM) (src : RegNum) : Statement (.shldRm16R16Cl dst src) := fun d => by
  exact encW_ok d _ _ _ _ _ (by simp)

theorem shldRm32R32Imm8 (dst : RM) (src : RegNum) (imm : Byte) : Statement (.shldRm32R32Imm8 dst src imm) := fun d => by
  exact encW_ok d _ _ _ _ _ (by simp)

theorem shldRm32R32Cl (dst : RM) (src : RegNum) : Statement (.shldRm32R32Cl dst src) := fun d => by
  exact encW_ok d _ _ _ _ _ (by simp)

theorem shrdRm16R16Imm8 (dst : RM) (src : RegNum) (imm : Byte) : Statement (.shrdRm16R16Imm8 dst src imm) := fun d => by
  exact encW_ok d _ _ _ _ _ (by simp)

theorem shrdRm16R16Cl (dst : RM) (src : RegNum) : Statement (.shrdRm16R16Cl dst src) := fun d => by
  exact encW_ok d _ _ _ _ _ (by simp)

theorem shrdRm32R32Imm8 (dst : RM) (src : RegNum) (imm : Byte) : Statement (.shrdRm32R32Imm8 dst src imm) := fun d => by
  exact encW_ok d _ _ _ _ _ (by simp)

theorem shrdRm32R32Cl (dst : RM) (src : RegNum) : Statement (.shrdRm32R32Cl dst src) := fun d => by
  exact encW_ok d _ _ _ _ _ (by simp)

theorem sldtRm16 (dst : RM) : Statement (.sldtRm16 dst) := fun d => by
  exact encW_ok d _ _ _ _ _ (by simp)

theorem sldtRm32 (dst : RM) : Statement (.sldtRm32 dst) := fun d => by
  exact encW_ok d _ _ _ _ _ (by simp)

theorem smswRm16 (dst : RM) : Statement (.smswRm16 dst) := fun d => by
  exact encW_ok d _ _ _ _ _ (by simp)

theorem smswR32M16 (dst : RM) : Statement (.smswR32M16 dst) := fun d => by
  exact encW_ok d _ _ _ _ _ (by simp)

theorem stc : Statement (.stc) := fun d => by
  simp [encode]

theorem std : Statement (.std) := fun d => by
  simp [encode]

theorem sti : Statement (.sti) := fun d => by
  simp [encode]

theorem stosM8 (asz : Size) : Statement (.stosM8 asz) := fun d => by
  have := as_bytes_length d asz
  simp only [encode, List.length_append, List.length_cons, List.length_nil]
  omega

theorem stosM16 (asz : Size) : Statement (.stosM16 asz) := fun d => by
  have := as_bytes_length d asz
  have := os_bytes_length d .s16
  simp only [encode, List.length_append, List.length_cons, List.length_nil]
  omega

theorem stosM32 (asz : Size) : Statement (.stosM32 asz) := fun d => by
  have := as_bytes_length d asz
  have := os_bytes_length d .s32
  simp only [encode, List.length_append, List.length_cons, List.length_nil]
  omega

theorem stosb (asz : Size) : Statement (.stosb asz) := fun d => by
  have := as_bytes_length d asz
  simp only [encode, List.length_append, List.length_cons, List.length_nil]
  omega

theorem stosw (asz : Size) : Statement (.stosw asz) := fun d => by
  have := as_bytes_length d asz
  have := os_bytes_length d .s16
  simp only [encode, List.length_append, List.length_cons, List.length_nil]
  omega

theorem stosd (asz : Size) : Statement (.stosd asz) := fun d => by
  have := as_bytes_length d asz
  have := os_bytes_length d .s32
  simp only [encode, List.length_append, List.length_cons, List.length_nil]
  omega

theorem strRm16 (osz : Size) (dst : RM) : Statement (.strRm16 osz dst) := fun d => by
  exact encW_ok d _ _ _ _ _ (by simp)

theorem subAlImm8 (imm : Byte) : Statement (.subAlImm8 imm) := fun d => by
  simp [encode]

theorem subAxImm16 (imm : Word16) : Statement (.subAxImm16 imm) := fun d => by
  have := os_bytes_length d .s16
  simp only [encode, List.length_append, List.length_cons, le16, List.length_nil]
  omega

theorem subEaxImm32 (imm : Word32) : Statement (.subEaxImm32 imm) := fun d => by
  have := os_bytes_length d .s32
  simp only [encode, List.length_append, List.length_cons, le32, List.length_nil]
  omega

theorem subRm8Imm8 (dst : RM) (imm : Byte) : Statement (.subRm8Imm8 dst imm) := fun d => by
  exact enc8_ok d _ _ _ _ (by simp)

theorem subRm16Imm16 (dst : RM) (imm : Word16) : Statement (.subRm16Imm16 dst imm) := fun d => by
  exact encW_ok d _ _ _ _ _ (by simp [le16])

theorem subRm32Imm32 (dst : RM) (imm : Word32) : Statement (.subRm32Imm32 dst imm) := fun d => by
  exact encW_ok d _ _ _ _ _ (by simp [le32])

theorem subRm16Imm8 (dst : RM) (imm : Byte) : Statement (.subRm16Imm8 dst imm) := fun d => by
  exact encW_ok d _ _ _ _ _ (by simp)

theorem subRm32Imm8 (dst : RM) (imm : Byte) : Statement (.subRm32Imm8 dst imm) := fun d => by
  exact encW_ok d _ _ _ _ _ (by simp)

theorem subRm8R8 (dst : RM) (src : RegNum) : Statement (.subRm8R8 dst src) := fun d => by
  exact enc8_ok d _ _ _ _ (by simp)

theorem subRm16R16 (dst : RM) (src : RegNum) : Statement (.subRm16R16 dst src) := fun d => by
  exact encW_ok d _ _ _ _ _ (by simp)

theorem subRm32R32 (dst : RM) (src : RegNum) : Statement (.subRm32R32 dst src) := fun d => by
  exact encW_ok d _ _ _ _ _ (by simp)

theorem subR8Rm8 (dst : RegNum) (src : RM) : Statement (.subR8Rm8 dst src) := fun d => by
  exact enc8_ok d _ _ _ _ (by simp)

theorem subR16Rm16 (dst : RegNum) (src : RM) : Statement (.subR16Rm16 dst src) := fun d => by
  exact encW_ok d _ _ _ _ _ (by simp)

theorem subR32Rm32 (dst : RegNum) (src : RM) : Statement (.subR32Rm32 dst src) := fun d => by
  exact encW_ok d _ _ _ _ _ (by simp)

theorem sysenter : Statement (.sysenter) := fun d => by
  simp [encode]

theorem sysexit : Statement (.sysexit) := fun d => by
  simp [encode]

end EncodedLength

end Sys2Proof.Laws
end

