-- ==== Sys2Proof/Tests/Slice0.lean ====
section
/-! SUPPORT. The model's own tests: ill-formed terms refused, words of the spec's encodings decoded, the spec's worked examples
and vectors (the row examples of 41 to 49 and 95_test_vectors.md) each run for one step, and for every statement with
hypotheses a state and operands that meet them. -/

namespace Sys2Proof.Tests

open Sys2Proof.Machine Sys2Proof.Machine.Ref

/-! ## Helpers -/

/-- A flat 4 GB segment. -/
def flatSeg (sel : Word16) (typ : BitVec 4) : SegReg :=
  { sel := sel, base := 0#32, limit := 0xFFFFF#20, g := true, s := true, typ := typ, d := true, dpl := 0#2, p := true }

/-- The usual state of 95_test_vectors.md: protected mode, 32-bit code, flat writable data segments, CPL 0. -/
def prot : State :=
  { State.reset with
    cr0 := 1#32, cs := flatSeg 0x10#16 0b1011#4, ds := flatSeg 0x18#16 0b0011#4, es := flatSeg 0x18#16 0b0011#4,
    ss := flatSeg 0x18#16 0b0011#4 }

/-- `prot` on another processor. -/
def on (g : ProcGen) (s : State) : State := { s with cfg := { s.cfg with procGen := g } }

/-- EAX, ECX, EDX, EBX and EDI; ESP, EBP and ESI hold markers. -/
def regs (s : State) (eax ecx edx ebx edi : Word32) : State :=
  s.withGpr #v[eax, ecx, edx, ebx, 0x11111110#32, 0x22222220#32, 0x33333330#32, edi]

/-- Bytes placed in memory. -/
def load (s : State) (a : Nat) (bs : List Byte) : State :=
  s.withMem (Mem.setAll s.mem (bs.zipIdx.map fun p => (a + p.2, p.1)))

/-- Bytes placed at CS:EIP, which is set to 1000h in a flat or zero-based segment. -/
def code (s : State) (bs : List Byte) : State := (load s 0x1000 bs).withEip 0x1000#32

/-- CF, OF, SF, ZF and PF of a row of the SETcc vectors. -/
def withStatus (s : State) (l : List Bool) : State :=
  match l with
  | [c, o, sf, z, p] => s.withFlags { s.flags with cf := c, ofl := o, sf := sf, zf := z, pf := p }
  | _ => s

/-- The result is a next state with this property. -/
def after (r : Result) (p : State → Bool) : Bool :=
  match r with
  | .next t => p t
  | .fault _ => false
  | .refused _ => false

/-- The result is this exception. -/
def raised (r : Result) (e : Exception) : Bool :=
  match r with
  | .next _ => false
  | .fault f => f == .exception e
  | .refused _ => false

/-- The result is this interrupt. -/
def interrupted (r : Result) (k : InterruptKind) : Bool :=
  match r with
  | .next _ => false
  | .fault f => f == .interrupt k
  | .refused _ => false

/-- The result is this refusal. -/
def refusedWith (r : Result) (q : Refusal) : Bool :=
  match r with
  | .next _ => false
  | .fault _ => false
  | .refused x => x == q

/-- Expected flag values: 0, 1, undefined. -/
abbrev t0 : Option Bool := some false
@[inherit_doc t0] abbrev t1 : Option Bool := some true
@[inherit_doc t0] abbrev xx : Option Bool := none

/-- The flags in the spec's order CF, OF, SF, ZF, AF, PF are as expected, where they are defined. -/
def flagsAre (f : Eflags) (l : List (Option Bool)) : Bool :=
  (List.zipWith (fun (b : Bool) (o : Option Bool) => o.all (· == b)) [f.cf, f.ofl, f.sf, f.zf, f.af, f.pf] l).all id

/-- All six status flags 1. -/
def allSet (s : State) : State :=
  s.withFlags { s.flags with cf := true, ofl := true, sf := true, zf := true, af := true, pf := true }

/-- `[EBX]`. -/
def ebx0 : MemRef := { ea := .a32 (.base 3#3 .none), override := none }

/-- The bytes decode to the canonical spelling of the instruction, whole, and the encoder writes those bytes for it. -/
def codec (dflt : Size) (v : List Byte × Instr) : Bool :=
  (match decode dflt v.1 with
    | .ok (i, r) => i == v.2.canon && r == []
    | .error _ => false) && encode dflt v.2 == v.1

/-- The bytes decode to the instruction, whole. -/
def decodes (dflt : Size) (v : List Byte × Instr) : Bool :=
  match decode dflt v.1 with
  | .ok (i, r) => i == v.2 && r == []
  | .error _ => false

/-- The bytes are no instruction, for this reason. -/
def stops (dflt : Size) (bs : List Byte) (e : DecodeStop) : Bool :=
  match decode dflt bs with
  | .ok _ => false
  | .error x => x == e

/-! ## WellFormed: one ill-formed term for each check -/

/-- R102: BP alone has no form without a displacement. -/
theorem test_wf_bp_without_disp : (Instr.sets (.mem ⟨.a16 (.base .bp .none), none⟩)).wf = false := by decide

/-- R101: EBP as a base has no form without a displacement. -/
theorem test_wf_ebp_without_disp : (Instr.shlRm8One (.mem ⟨.a32 (.base 5#3 .none), none⟩)).wf = false := by decide

/-- R101: r/m 100 is the SIB escape. -/
theorem test_wf_plain_base_esp : (Instr.subR8Rm8 0#3 (.mem ⟨.a32 (.base 4#3 (.d8 0#8)), none⟩)).wf = false := by decide

/-- R101: index 100 is no register. -/
theorem test_wf_index_esp : (Instr.sgdt .s32 (.mem ⟨.a32 (.sib 0#2 (some 4#3) 0#3 .none), none⟩)).wf = false := by decide

/-- R101: SIB base 101 has no form without a displacement. -/
theorem test_wf_sib_base_ebp : (Instr.sldtRm16 (.mem ⟨.a32 (.sib 0#2 none 5#3 .none), none⟩)).wf = false := by decide

/-- R101: index 100 is no register without a base either. -/
theorem test_wf_index_esp_no_base : (Instr.smswRm16 (.mem ⟨.a32 (.sibNoBase 0#2 (some 4#3) 0#32), none⟩)).wf = false := by
  decide

/-! ## Decoding: the bytes of every row's example (32-bit code), and the encoder's bytes for it -/

theorem test_decode_shift : ([
  ([0xD0#8, 0xE3#8], .salRm8One (.reg 3#3)),
  ([0xD2#8, 0xE3#8], .salRm8Cl (.reg 3#3)),
  ([0xC0#8, 0xE3#8, 0x04#8], .salRm8Imm8 (.reg 3#3) 0x04#8),
  ([0x66#8, 0xD1#8, 0xE3#8], .salRm16One (.reg 3#3)),
  ([0x66#8, 0xD3#8, 0xE3#8], .salRm16Cl (.reg 3#3)),
  ([0x66#8, 0xC1#8, 0xE3#8, 0x10#8], .salRm16Imm8 (.reg 3#3) 0x10#8),
  ([0xD1#8, 0xE3#8], .salRm32One (.reg 3#3)),
  ([0xD3#8, 0xE3#8], .salRm32Cl (.reg 3#3)),
  ([0xC1#8, 0xE3#8, 0x20#8], .salRm32Imm8 (.reg 3#3) 0x20#8),
  ([0xD0#8, 0xFB#8], .sarRm8One (.reg 3#3)),
  ([0xD2#8, 0xFB#8], .sarRm8Cl (.reg 3#3)),
  ([0xC0#8, 0xFB#8, 0x04#8], .sarRm8Imm8 (.reg 3#3) 0x04#8),
  ([0x66#8, 0xD1#8, 0xFB#8], .sarRm16One (.reg 3#3)),
  ([0x66#8, 0xD3#8, 0xFB#8], .sarRm16Cl (.reg 3#3)),
  ([0x66#8, 0xC1#8, 0xFB#8, 0x10#8], .sarRm16Imm8 (.reg 3#3) 0x10#8),
  ([0xD1#8, 0xFB#8], .sarRm32One (.reg 3#3)),
  ([0xD3#8, 0xFB#8], .sarRm32Cl (.reg 3#3)),
  ([0xC1#8, 0xFB#8, 0x20#8], .sarRm32Imm8 (.reg 3#3) 0x20#8),
  ([0xD0#8, 0xE3#8], .shlRm8One (.reg 3#3)),
  ([0xD2#8, 0xE3#8], .shlRm8Cl (.reg 3#3)),
  ([0xC0#8, 0xE3#8, 0x04#8], .shlRm8Imm8 (.reg 3#3) 0x04#8),
  ([0x66#8, 0xD1#8, 0xE3#8], .shlRm16One (.reg 3#3)),
  ([0x66#8, 0xD3#8, 0xE3#8], .shlRm16Cl (.reg 3#3)),
  ([0x66#8, 0xC1#8, 0xE3#8, 0x10#8], .shlRm16Imm8 (.reg 3#3) 0x10#8),
  ([0xD1#8, 0xE3#8], .shlRm32One (.reg 3#3)),
  ([0xD3#8, 0xE3#8], .shlRm32Cl (.reg 3#3)),
  ([0xC1#8, 0xE3#8, 0x20#8], .shlRm32Imm8 (.reg 3#3) 0x20#8),
  ([0xD0#8, 0xEB#8], .shrRm8One (.reg 3#3)),
  ([0xD2#8, 0xEB#8], .shrRm8Cl (.reg 3#3)),
  ([0xC0#8, 0xEB#8, 0x04#8], .shrRm8Imm8 (.reg 3#3) 0x04#8),
  ([0x66#8, 0xD1#8, 0xEB#8], .shrRm16One (.reg 3#3)),
  ([0x66#8, 0xD3#8, 0xEB#8], .shrRm16Cl (.reg 3#3)),
  ([0x66#8, 0xC1#8, 0xEB#8, 0x10#8], .shrRm16Imm8 (.reg 3#3) 0x10#8),
  ([0xD1#8, 0xEB#8], .shrRm32One (.reg 3#3)),
  ([0xD3#8, 0xEB#8], .shrRm32Cl (.reg 3#3)),
  ([0xC1#8, 0xEB#8, 0x20#8], .shrRm32Imm8 (.reg 3#3) 0x20#8)] : List (List Byte × Instr)).all (codec .s32) = true := by
  decide

theorem test_decode_double_shift : ([
  ([0x66#8, 0x0F#8, 0xA4#8, 0xD3#8, 0x04#8], .shldRm16R16Imm8 (.reg 3#3) 2#3 0x04#8),
  ([0x66#8, 0x0F#8, 0xA5#8, 0xD3#8], .shldRm16R16Cl (.reg 3#3) 2#3),
  ([0x0F#8, 0xA4#8, 0xD3#8, 0x01#8], .shldRm32R32Imm8 (.reg 3#3) 2#3 0x01#8),
  ([0x0F#8, 0xA5#8, 0xD3#8], .shldRm32R32Cl (.reg 3#3) 2#3),
  ([0x66#8, 0x0F#8, 0xAC#8, 0xD3#8, 0x04#8], .shrdRm16R16Imm8 (.reg 3#3) 2#3 0x04#8),
  ([0x66#8, 0x0F#8, 0xAD#8, 0xD3#8], .shrdRm16R16Cl (.reg 3#3) 2#3),
  ([0x0F#8, 0xAC#8, 0xD3#8, 0x1F#8], .shrdRm32R32Imm8 (.reg 3#3) 2#3 0x1F#8),
  ([0x0F#8, 0xAD#8, 0xD3#8], .shrdRm32R32Cl (.reg 3#3) 2#3)] : List (List Byte × Instr)).all (codec .s32) = true := by
  decide

theorem test_decode_subtract : ([
  ([0x1C#8, 0x01#8], .sbbAlImm8 0x01#8),
  ([0x66#8, 0x1D#8, 0x01#8, 0x00#8], .sbbAxImm16 0x0001#16),
  ([0x1D#8, 0xFF#8, 0xFF#8, 0xFF#8, 0xFF#8], .sbbEaxImm32 0xFFFFFFFF#32),
  ([0x80#8, 0xDB#8, 0x7F#8], .sbbRm8Imm8 (.reg 3#3) 0x7F#8),
  ([0x66#8, 0x81#8, 0xDB#8, 0x34#8, 0x12#8], .sbbRm16Imm16 (.reg 3#3) 0x1234#16),
  ([0x81#8, 0xDB#8, 0x00#8, 0x00#8, 0x00#8, 0x80#8], .sbbRm32Imm32 (.reg 3#3) 0x80000000#32),
  ([0x66#8, 0x83#8, 0xDB#8, 0xFF#8], .sbbRm16Imm8 (.reg 3#3) 0xFF#8),
  ([0x83#8, 0xDB#8, 0x80#8], .sbbRm32Imm8 (.reg 3#3) 0x80#8),
  ([0x18#8, 0xD3#8], .sbbRm8R8 (.reg 3#3) 2#3),
  ([0x66#8, 0x19#8, 0xD3#8], .sbbRm16R16 (.reg 3#3) 2#3),
  ([0x19#8, 0xD3#8], .sbbRm32R32 (.reg 3#3) 2#3),
  ([0x1A#8, 0xDA#8], .sbbR8Rm8 3#3 (.reg 2#3)),
  ([0x66#8, 0x1B#8, 0xDA#8], .sbbR16Rm16 3#3 (.reg 2#3)),
  ([0x1B#8, 0xDA#8], .sbbR32Rm32 3#3 (.reg 2#3)),
  ([0x2C#8, 0x01#8], .subAlImm8 0x01#8),
  ([0x66#8, 0x2D#8, 0x01#8, 0x00#8], .subAxImm16 0x0001#16),
  ([0x2D#8, 0xFF#8, 0xFF#8, 0xFF#8, 0xFF#8], .subEaxImm32 0xFFFFFFFF#32),
  ([0x80#8, 0xEB#8, 0x7F#8], .subRm8Imm8 (.reg 3#3) 0x7F#8),
  ([0x66#8, 0x81#8, 0xEB#8, 0x34#8, 0x12#8], .subRm16Imm16 (.reg 3#3) 0x1234#16),
  ([0x81#8, 0xEB#8, 0x00#8, 0x00#8, 0x00#8, 0x80#8], .subRm32Imm32 (.reg 3#3) 0x80000000#32),
  ([0x66#8, 0x83#8, 0xEB#8, 0xFF#8], .subRm16Imm8 (.reg 3#3) 0xFF#8),
  ([0x83#8, 0xEB#8, 0x80#8], .subRm32Imm8 (.reg 3#3) 0x80#8),
  ([0x28#8, 0xD3#8], .subRm8R8 (.reg 3#3) 2#3),
  ([0x66#8, 0x29#8, 0xD3#8], .subRm16R16 (.reg 3#3) 2#3),
  ([0x29#8, 0xD3#8], .subRm32R32 (.reg 3#3) 2#3),
  ([0x2A#8, 0xDA#8], .subR8Rm8 3#3 (.reg 2#3)),
  ([0x66#8, 0x2B#8, 0xDA#8], .subR16Rm16 3#3 (.reg 2#3)),
  ([0x2B#8, 0xDA#8], .subR32Rm32 3#3 (.reg 2#3))] : List (List Byte × Instr)).all (codec .s32) = true := by
  decide

theorem test_decode_string : ([
  ([0xAE#8], .scasM8 .s32),
  ([0x66#8, 0xAF#8], .scasM16 .s32),
  ([0xAF#8], .scasM32 .s32),
  ([0xAE#8], .scasb .s32),
  ([0x66#8, 0x67#8, 0xAF#8], .scasw .s16),
  ([0xAF#8], .scasd .s32),
  ([0xAA#8], .stosM8 .s32),
  ([0x66#8, 0xAB#8], .stosM16 .s32),
  ([0xAB#8], .stosM32 .s32),
  ([0xAA#8], .stosb .s32),
  ([0x66#8, 0x67#8, 0xAB#8], .stosw .s16),
  ([0xAB#8], .stosd .s32)] : List (List Byte × Instr)).all (codec .s32) = true := by
  decide

theorem test_decode_setcc : ([
  ([0x0F#8, 0x97#8, 0xC3#8], .seta (.reg 3#3)),
  ([0x0F#8, 0x93#8, 0xC3#8], .setae (.reg 3#3)),
  ([0x0F#8, 0x92#8, 0xC3#8], .setb (.reg 3#3)),
  ([0x0F#8, 0x96#8, 0xC3#8], .setbe (.reg 3#3)),
  ([0x0F#8, 0x92#8, 0xC3#8], .setc (.reg 3#3)),
  ([0x0F#8, 0x94#8, 0xC3#8], .sete (.reg 3#3)),
  ([0x0F#8, 0x9F#8, 0xC3#8], .setg (.reg 3#3)),
  ([0x0F#8, 0x9D#8, 0xC3#8], .setge (.reg 3#3)),
  ([0x0F#8, 0x9C#8, 0xC3#8], .setl (.reg 3#3)),
  ([0x0F#8, 0x9E#8, 0xC3#8], .setle (.reg 3#3)),
  ([0x0F#8, 0x96#8, 0xC3#8], .setna (.reg 3#3)),
  ([0x0F#8, 0x92#8, 0xC3#8], .setnae (.reg 3#3)),
  ([0x0F#8, 0x93#8, 0xC3#8], .setnb (.reg 3#3)),
  ([0x0F#8, 0x97#8, 0xC3#8], .setnbe (.reg 3#3)),
  ([0x0F#8, 0x93#8, 0xC3#8], .setnc (.reg 3#3)),
  ([0x0F#8, 0x95#8, 0xC3#8], .setne (.reg 3#3)),
  ([0x0F#8, 0x9E#8, 0xC3#8], .setng (.reg 3#3)),
  ([0x0F#8, 0x9C#8, 0xC3#8], .setnge (.reg 3#3)),
  ([0x0F#8, 0x9D#8, 0xC3#8], .setnl (.reg 3#3)),
  ([0x0F#8, 0x9F#8, 0xC3#8], .setnle (.reg 3#3)),
  ([0x0F#8, 0x91#8, 0xC3#8], .setno (.reg 3#3)),
  ([0x0F#8, 0x9B#8, 0xC3#8], .setnp (.reg 3#3)),
  ([0x0F#8, 0x99#8, 0xC3#8], .setns (.reg 3#3)),
  ([0x0F#8, 0x95#8, 0xC3#8], .setnz (.reg 3#3)),
  ([0x0F#8, 0x90#8, 0xC3#8], .seto (.reg 3#3)),
  ([0x0F#8, 0x9A#8, 0xC3#8], .setp (.reg 3#3)),
  ([0x0F#8, 0x9A#8, 0xC3#8], .setpe (.reg 3#3)),
  ([0x0F#8, 0x9B#8, 0xC3#8], .setpo (.reg 3#3)),
  ([0x0F#8, 0x98#8, 0xC3#8], .sets (.reg 3#3)),
  ([0x0F#8, 0x94#8, 0xC3#8], .setz (.reg 3#3))] : List (List Byte × Instr)).all (codec .s32) = true := by
  decide

theorem test_decode_system : ([
  ([0x0F#8, 0x01#8, 0x03#8], .sgdt .s32 (.mem ebx0)),
  ([0x0F#8, 0x01#8, 0x0B#8], .sidt .s32 (.mem ebx0)),
  ([0x66#8, 0x0F#8, 0x00#8, 0xC3#8], .sldtRm16 (.reg 3#3)),
  ([0x0F#8, 0x00#8, 0xC3#8], .sldtRm32 (.reg 3#3)),
  ([0x66#8, 0x0F#8, 0x01#8, 0xE3#8], .smswRm16 (.reg 3#3)),
  ([0x0F#8, 0x01#8, 0xE3#8], .smswR32M16 (.reg 3#3)),
  ([0x66#8, 0x0F#8, 0x00#8, 0xCB#8], .strRm16 .s16 (.reg 3#3))] : List (List Byte × Instr)).all (codec .s32) = true := by
  decide

theorem test_decode_plain : ([
  ([0x9E#8], .sahf),
  ([0xF9#8], .stc),
  ([0xFD#8], .std),
  ([0xFB#8], .sti),
  ([0x0F#8, 0x34#8], .sysenter),
  ([0x0F#8, 0x35#8], .sysexit)] : List (List Byte × Instr)).all (codec .s32) = true := by
  decide

/-- 95_test_vectors.md 2.13, 2.5 and 2.12: operand sizes, memory forms and overrides. -/
theorem test_decode_forms : ([
  ([0xD1#8, 0xE0#8], .shlRm32One (.reg 0#3)),
  ([0x81#8, 0xEB#8, 0x78#8, 0x56#8, 0x34#8, 0x12#8], .subRm32Imm32 (.reg 3#3) 0x12345678#32),
  ([0x83#8, 0x5C#8, 0x24#8, 0x04#8, 0x00#8],
    .sbbRm32Imm8 (.mem ⟨.a32 (.sib 0#2 none 4#3 (.d8 4#8)), none⟩) 0#8),
  ([0x80#8, 0x6D#8, 0xFC#8, 0x01#8], .subRm8Imm8 (.mem ⟨.a32 (.base 5#3 (.d8 0xFC#8)), none⟩) 1#8),
  ([0x36#8, 0x29#8, 0x13#8], .subRm32R32 (.mem ⟨.a32 (.base 3#3 .none), some .ss⟩) 2#3),
  ([0x0F#8, 0x92#8, 0x03#8], .setb (.mem ebx0)),
  ([0x0F#8, 0x95#8, 0x45#8, 0x08#8], .setne (.mem ⟨.a32 (.base 5#3 (.d8 8#8)), none⟩)),
  ([0x0F#8, 0x94#8, 0xF8#8], .sete (.reg 0#3)),
  ([0x66#8, 0x9E#8], .sahf), ([0x67#8, 0x9E#8], .sahf), ([0x2E#8, 0x9E#8], .sahf),
  ([0x67#8, 0x66#8, 0xAF#8], .scasw .s16), ([0x2E#8, 0xAE#8], .scasb .s32)] : List (List Byte × Instr)).all
    (decodes .s32) = true := by
  decide

/-- 95_test_vectors.md 2.12 M7, 2.13 and P6: 16-bit code. -/
theorem test_decode_16 : ([
  ([0xD1#8, 0xE0#8], .shlRm16One (.reg 0#3)),
  ([0x66#8, 0xD1#8, 0xE0#8], .shlRm32One (.reg 0#3)),
  ([0x29#8, 0x17#8], .subRm16R16 (.mem ⟨.a16 (.base .bx .none), none⟩) 2#3),
  ([0x29#8, 0x16#8, 0x34#8, 0x12#8], .subRm16R16 (.mem ⟨.a16 (.direct 0x1234#16), none⟩) 2#3),
  ([0x29#8, 0x56#8, 0xFF#8], .subRm16R16 (.mem ⟨.a16 (.base .bp (.d8 0xFF#8)), none⟩) 2#3),
  ([0x0F#8, 0x00#8, 0xC0#8], .sldtRm16 (.reg 0#3))] : List (List Byte × Instr)).all (decodes .s16) = true := by
  decide

/-- 95_test_vectors.md 2.13 and C7, O7: what is refused. -/
theorem test_decode_refused :
    stops .s32 [0xD1#8, 0xD0#8] .notInScope = true ∧ stops .s32 [0x0F#8, 0x01#8, 0xD3#8] .notInScope = true ∧
    stops .s32 [0xF0#8, 0x29#8, 0x13#8] .lockPrefix = true ∧ stops .s32 [0xF3#8, 0xAE#8] .repPrefix = true ∧
    stops .s32 [0xF3#8, 0xAB#8] .repPrefix = true ∧ stops .s32 [0x81#8, 0xEB#8, 0x78#8] .truncated = true := by
  decide

/-- The host's table words, with the 16-bit default of the reset state (log entry 27). -/
theorem test_table_words :
    decodeTableWord 16 0x20D3 = some (.shlRm16Cl (.mem ⟨.a16 (.base .bxSi .none), none⟩)) ∧
    decodeTableWord 8 0x9E = some .sahf ∧ decodeTableWord 8 0xF4 = none := by
  decide

/-! ## Shifts -/

/-- One shift of EBX with ECX as given and all six flags 1 before: EBX and the flags after. -/
def shiftOk (v : Instr × Word32 × Word32 × Word32 × List (Option Bool)) : Bool :=
  after (exec v.1 (allSet (regs prot 0#32 v.2.2.1 0#32 v.2.1 0#32))) fun t =>
    t.reg32 3#3 == v.2.2.2.1 && flagsAre t.flags v.2.2.2.2

/-- The example of each row R150 to R185 and vectors of 95_test_vectors.md 2.2: instruction, EBX, ECX, EBX after, flags. -/
theorem test_shift : ([
  (.salRm8One (.reg 3#3), 0xA5A5A581#32, 0x00000000#32, 0xA5A5A502#32, [t1, t1, t0, t0, xx, t0]),
  (.salRm8Cl (.reg 3#3), 0xA5A5A5B5#32, 0x00000009#32, 0xA5A5A500#32, [xx, xx, t0, t1, xx, t1]),
  (.salRm8Imm8 (.reg 3#3) 0x04#8, 0xA5A5A596#32, 0x00000000#32, 0xA5A5A560#32, [t1, xx, t0, t0, xx, t1]),
  (.salRm16One (.reg 3#3), 0xA5A54001#32, 0x00000000#32, 0xA5A58002#32, [t0, t1, t1, t0, xx, t0]),
  (.salRm16Cl (.reg 3#3), 0xA5A58421#32, 0x00000024#32, 0xA5A54210#32, [t0, xx, t0, t0, xx, t0]),
  (.salRm16Imm8 (.reg 3#3) 0x10#8, 0xA5A5C003#32, 0x00000000#32, 0xA5A50000#32, [xx, xx, t0, t1, xx, t1]),
  (.salRm32One (.reg 3#3), 0xC0000001#32, 0x00000000#32, 0x80000002#32, [t1, t0, t1, t0, xx, t0]),
  (.salRm32Cl (.reg 3#3), 0x80000001#32, 0x0000001F#32, 0x80000000#32, [t0, xx, t1, t0, xx, t1]),
  (.salRm32Imm8 (.reg 3#3) 0x20#8, 0x12345678#32, 0x00000000#32, 0x12345678#32, [t1, t1, t1, t1, t1, t1]),
  (.sarRm8One (.reg 3#3), 0xA5A5A581#32, 0x00000000#32, 0xA5A5A5C0#32, [t1, t0, t1, t0, xx, t1]),
  (.sarRm8Cl (.reg 3#3), 0xA5A5A5B5#32, 0x00000009#32, 0xA5A5A5FF#32, [t1, xx, t1, t0, xx, t1]),
  (.sarRm8Imm8 (.reg 3#3) 0x04#8, 0xA5A5A596#32, 0x00000000#32, 0xA5A5A5F9#32, [t0, xx, t1, t0, xx, t1]),
  (.sarRm16One (.reg 3#3), 0xA5A54001#32, 0x00000000#32, 0xA5A52000#32, [t1, t0, t0, t0, xx, t1]),
  (.sarRm16Cl (.reg 3#3), 0xA5A58421#32, 0x00000024#32, 0xA5A5F842#32, [t0, xx, t1, t0, xx, t1]),
  (.sarRm16Imm8 (.reg 3#3) 0x10#8, 0xA5A5C003#32, 0x00000000#32, 0xA5A5FFFF#32, [t1, xx, t1, t0, xx, t1]),
  (.sarRm32One (.reg 3#3), 0xC0000001#32, 0x00000000#32, 0xE0000000#32, [t1, t0, t1, t0, xx, t1]),
  (.sarRm32Cl (.reg 3#3), 0x80000001#32, 0x0000001F#32, 0xFFFFFFFF#32, [t0, xx, t1, t0, xx, t1]),
  (.sarRm32Imm8 (.reg 3#3) 0x20#8, 0x12345678#32, 0x00000000#32, 0x12345678#32, [t1, t1, t1, t1, t1, t1]),
  (.shlRm8One (.reg 3#3), 0xA5A5A581#32, 0x00000000#32, 0xA5A5A502#32, [t1, t1, t0, t0, xx, t0]),
  (.shlRm8Cl (.reg 3#3), 0xA5A5A5B5#32, 0x00000009#32, 0xA5A5A500#32, [xx, xx, t0, t1, xx, t1]),
  (.shlRm8Imm8 (.reg 3#3) 0x04#8, 0xA5A5A596#32, 0x00000000#32, 0xA5A5A560#32, [t1, xx, t0, t0, xx, t1]),
  (.shlRm16One (.reg 3#3), 0xA5A54001#32, 0x00000000#32, 0xA5A58002#32, [t0, t1, t1, t0, xx, t0]),
  (.shlRm16Cl (.reg 3#3), 0xA5A58421#32, 0x00000024#32, 0xA5A54210#32, [t0, xx, t0, t0, xx, t0]),
  (.shlRm16Imm8 (.reg 3#3) 0x10#8, 0xA5A5C003#32, 0x00000000#32, 0xA5A50000#32, [xx, xx, t0, t1, xx, t1]),
  (.shlRm32One (.reg 3#3), 0xC0000001#32, 0x00000000#32, 0x80000002#32, [t1, t0, t1, t0, xx, t0]),
  (.shlRm32Cl (.reg 3#3), 0x80000001#32, 0x0000001F#32, 0x80000000#32, [t0, xx, t1, t0, xx, t1]),
  (.shlRm32Imm8 (.reg 3#3) 0x20#8, 0x12345678#32, 0x00000000#32, 0x12345678#32, [t1, t1, t1, t1, t1, t1]),
  (.shrRm8One (.reg 3#3), 0xA5A5A581#32, 0x00000000#32, 0xA5A5A540#32, [t1, t1, t0, t0, xx, t0]),
  (.shrRm8Cl (.reg 3#3), 0xA5A5A5B5#32, 0x00000009#32, 0xA5A5A500#32, [xx, xx, t0, t1, xx, t1]),
  (.shrRm8Imm8 (.reg 3#3) 0x04#8, 0xA5A5A596#32, 0x00000000#32, 0xA5A5A509#32, [t0, xx, t0, t0, xx, t1]),
  (.shrRm16One (.reg 3#3), 0xA5A54001#32, 0x00000000#32, 0xA5A52000#32, [t1, t0, t0, t0, xx, t1]),
  (.shrRm16Cl (.reg 3#3), 0xA5A58421#32, 0x00000024#32, 0xA5A50842#32, [t0, xx, t0, t0, xx, t1]),
  (.shrRm16Imm8 (.reg 3#3) 0x10#8, 0xA5A5C003#32, 0x00000000#32, 0xA5A50000#32, [xx, xx, t0, t1, xx, t1]),
  (.shrRm32One (.reg 3#3), 0xC0000001#32, 0x00000000#32, 0x60000000#32, [t1, t1, t0, t0, xx, t1]),
  (.shrRm32Cl (.reg 3#3), 0x80000001#32, 0x0000001F#32, 0x00000001#32, [t0, xx, t0, t0, xx, t0]),
  (.shrRm32Imm8 (.reg 3#3) 0x20#8, 0x12345678#32, 0x00000000#32, 0x12345678#32, [t1, t1, t1, t1, t1, t1]),
  (.shlRm8One (.reg 3#3), 0xA5A5A580#32, 0x00000000#32, 0xA5A5A500#32, [t1, t1, t0, t1, xx, t1]),
  (.salRm8One (.reg 3#3), 0xA5A5A5C0#32, 0x00000000#32, 0xA5A5A580#32, [t1, t0, t1, t0, xx, t0]),
  (.shlRm8Imm8 (.reg 3#3) 0x09#8, 0xA5A5A5FF#32, 0x00000000#32, 0xA5A5A500#32, [xx, xx, t0, t1, xx, t1]),
  (.shlRm8Imm8 (.reg 3#3) 0x21#8, 0xA5A5A581#32, 0x00000000#32, 0xA5A5A502#32, [t1, t1, t0, t0, xx, t0]),
  (.shlRm8Imm8 (.reg 3#3) 0x20#8, 0xA5A5A581#32, 0x00000000#32, 0xA5A5A581#32, [t1, t1, t1, t1, t1, t1]),
  (.shlRm32Cl (.reg 3#3), 0x00000001#32, 0x000000FF#32, 0x80000000#32, [t0, xx, t1, t0, xx, t1]),
  (.shrRm8One (.reg 3#3), 0xA5A5A501#32, 0x00000000#32, 0xA5A5A500#32, [t1, t0, t0, t1, xx, t1]),
  (.shrRm16Imm8 (.reg 3#3) 0x0F#8, 0xA5A5FFFF#32, 0x00000000#32, 0xA5A50001#32, [t1, xx, t0, t0, xx, t0]),
  (.shrRm32Imm8 (.reg 3#3) 0x1F#8, 0x80000000#32, 0x00000000#32, 0x00000001#32, [t0, xx, t0, t0, xx, t0]),
  (.sarRm8Imm8 (.reg 3#3) 0x02#8, 0xA5A5A5F7#32, 0x00000000#32, 0xA5A5A5FD#32, [t1, xx, t1, t0, xx, t0]),
  (.sarRm8One (.reg 3#3), 0xA5A5A580#32, 0x00000000#32, 0xA5A5A5C0#32, [t0, t0, t1, t0, xx, t1]),
  (.sarRm8Imm8 (.reg 3#3) 0x08#8, 0xA5A5A580#32, 0x00000000#32, 0xA5A5A5FF#32, [t1, xx, t1, t0, xx, t1]),
  (.sarRm8Imm8 (.reg 3#3) 0x1F#8, 0xA5A5A581#32, 0x00000000#32, 0xA5A5A5FF#32, [t1, xx, t1, t0, xx, t1]),
  (.sarRm32Imm8 (.reg 3#3) 0x02#8, 0x00000009#32, 0x00000000#32, 0x00000002#32, [t0, xx, t0, t0, xx, t0])] : List (Instr × Word32 × Word32 × Word32 × List (Option Bool))).all shiftOk = true := by
  decide

/-- 95_test_vectors.md 2.2: the count register as destination, and S12 on an i8086 with an 8-bit operand (R142). -/
theorem test_shift_counts :
    after (exec (.shlRm8Cl (.reg 1#3)) (regs prot 0#32 3#32 0#32 0#32 0#32)) (fun t =>
      t.reg32 1#3 == 0x18#32 && flagsAre t.flags [t0, xx, t0, t0, xx, t1]) = true ∧
    after (exec (.sarRm8Cl (.reg 3#3)) (on .i8086 (regs prot 0#32 0x20#32 0#32 0x80#32 0#32))) (fun t =>
      t.reg32 3#3 == 0xFF#32 && flagsAre t.flags [t1, xx, t1, t0, xx, t1]) = true := by
  decide

/-- 95_test_vectors.md 2.2, decision D19: a masked count of 0 with a null DS. -/
theorem test_shift_zero_checks :
    raised (exec (.shlRm32Imm8 (.mem ebx0) 0x20#8) { prot with ds := flatSeg 0#16 0b0011#4 }) (.gp (some 0)) = true := by
  decide

/-! ## Double shifts -/

/-- One double shift of EBX with EDX and ECX as given, all six flags 1 before. -/
def dshiftOk (v : Instr × Word32 × Word32 × Word32 × Word32 × List (Option Bool)) : Bool :=
  after (exec v.1 (allSet (regs prot 0#32 v.2.2.2.1 v.2.2.1 v.2.1 0#32))) fun t =>
    t.reg32 3#3 == v.2.2.2.2.1 && t.reg32 2#3 == v.2.2.1 && flagsAre t.flags v.2.2.2.2.2

/-- The examples of R302 to R315 and vectors of 95_test_vectors.md 2.7: instruction, EBX, EDX, ECX, EBX after, flags. -/
theorem test_double_shift :
    ([
  (.shldRm16R16Imm8 (.reg 3#3) 2#3 0x04#8, 0xA5A51234#32, 0xA5A5ABCD#32, 0x00000000#32, 0xA5A5234A#32, [t1, xx, t0, t0, xx, t0]),
  (.shldRm32R32Imm8 (.reg 3#3) 2#3 0x01#8, 0x40000001#32, 0x80000000#32, 0x00000000#32, 0x80000003#32, [t0, t1, t1, t0, xx, t1]),
  (.shldRm32R32Cl (.reg 3#3) 2#3, 0x12345678#32, 0x9ABCDEF0#32, 0x00000028#32, 0x3456789A#32, [t0, xx, t0, t0, xx, t1]),
  (.shrdRm16R16Imm8 (.reg 3#3) 2#3 0x04#8, 0xA5A51234#32, 0xA5A5ABCD#32, 0x00000000#32, 0xA5A5D123#32, [t0, xx, t1, t0, xx, t0]),
  (.shrdRm16R16Cl (.reg 3#3) 2#3, 0xA5A58001#32, 0xA5A50001#32, 0x00000021#32, 0xA5A5C000#32, [t1, t0, t1, t0, xx, t1]),
  (.shrdRm32R32Imm8 (.reg 3#3) 2#3 0x1F#8, 0x12345678#32, 0x9ABCDEF0#32, 0x00000000#32, 0x3579BDE0#32, [t0, xx, t0, t0, xx, t0]),
  (.shrdRm32R32Cl (.reg 3#3) 2#3, 0xFFFFFFFF#32, 0x00000000#32, 0x00000020#32, 0xFFFFFFFF#32, [t1, t1, t1, t1, t1, t1]),
  (.shldRm32R32Imm8 (.reg 3#3) 2#3 0x01#8, 0x80000000#32, 0x80000000#32, 0x00000000#32, 0x00000001#32, [t1, t1, t0, t0, xx, t0]),
  (.shldRm32R32Imm8 (.reg 3#3) 2#3 0x01#8, 0x40000000#32, 0x00000000#32, 0x00000000#32, 0x80000000#32, [t0, t1, t1, t0, xx, t1]),
  (.shldRm32R32Imm8 (.reg 3#3) 2#3 0x1F#8, 0x00000001#32, 0xFFFFFFFF#32, 0x00000000#32, 0xFFFFFFFF#32, [t0, xx, t1, t0, xx, t1]),
  (.shldRm32R32Imm8 (.reg 3#3) 2#3 0x20#8, 0x12345678#32, 0x9ABCDEF0#32, 0x00000000#32, 0x12345678#32, [t1, t1, t1, t1, t1, t1]),
  (.shldRm16R16Imm8 (.reg 3#3) 2#3 0x0F#8, 0xA5A51234#32, 0xA5A5ABCD#32, 0x00000000#32, 0xA5A555E6#32, [t0, xx, t0, t0, xx, t0]),
  (.shrdRm32R32Imm8 (.reg 3#3) 2#3 0x04#8, 0x12345678#32, 0x9ABCDEF0#32, 0x00000000#32, 0x01234567#32, [t1, xx, t0, t0, xx, t0]),
  (.shrdRm32R32Imm8 (.reg 3#3) 2#3 0x01#8, 0x00000001#32, 0x00000001#32, 0x00000000#32, 0x80000000#32, [t1, t1, t1, t0, xx, t1]),
  (.shrdRm32R32Imm8 (.reg 3#3) 2#3 0x01#8, 0x80000000#32, 0x00000000#32, 0x00000000#32, 0x40000000#32, [t0, t1, t0, t0, xx, t1]),
  (.shrdRm32R32Imm8 (.reg 3#3) 2#3 0x1F#8, 0x80000000#32, 0xFFFFFFFF#32, 0x00000000#32, 0xFFFFFFFF#32, [t0, xx, t1, t0, xx, t1]),
  (.shrdRm16R16Imm8 (.reg 3#3) 2#3 0x03#8, 0xA5A50000#32, 0xA5A50000#32, 0x00000000#32, 0xA5A50000#32, [t0, xx, t0, t1, xx, t1])] : List (Instr × Word32 × Word32 × Word32 × Word32 × List (Option Bool))).all dshiftOk = true := by
  decide

/-- R303: past the width the source register and the other registers still keep their values. -/
theorem test_double_shift_past_width :
    after (exec (.shldRm16R16Cl (.reg 3#3) 2#3) (regs prot 7#32 0x10#32 0xFFFF#32 0xA5A58001#32 9#32)) (fun t =>
      t.reg32 2#3 == 0xFFFF#32 && t.reg32 1#3 == 0x10#32 && t.reg32 0#3 == 7#32 && !t.flags.df) = true := by
  decide

/-! ## SBB and SUB -/

/-- One subtraction with the register and EDX as given. -/
def subOk (v : Instr × Bool × RegNum × Word32 × Word32 × Word32 × List (Option Bool)) : Bool :=
  let s := (prot.withFlags { prot.flags with cf := v.2.1 }).setReg32 2#3 v.2.2.2.2.1
  after (exec v.1 (s.setReg32 v.2.2.1 v.2.2.2.1)) fun t =>
    t.reg32 v.2.2.1 == v.2.2.2.2.2.1 && flagsAre t.flags v.2.2.2.2.2.2

/-- The examples of R194 to R207 and R388 to R401 and vectors of 95_test_vectors.md 2.3: instruction, CF, destination, its
value, EDX, the destination after, flags. -/
theorem test_subtract :
    ([
  (.sbbAlImm8 0x01#8, true, 0#3, 0xA5A5A500#32, 0xA5A5A5A5#32, 0xA5A5A5FE#32, [t1, t0, t1, t0, t1, t0]),
  (.sbbAxImm16 0x0001#16, false, 0#3, 0xA5A58000#32, 0xA5A5A5A5#32, 0xA5A57FFF#32, [t0, t1, t0, t0, t1, t1]),
  (.sbbEaxImm32 0xFFFFFFFF#32, true, 0#3, 0x00000000#32, 0xA5A5A5A5#32, 0x00000000#32, [t1, t0, t0, t1, t1, t1]),
  (.sbbRm8Imm8 (.reg 3#3) 0x7F#8, true, 3#3, 0xA5A5A580#32, 0xA5A5A5A5#32, 0xA5A5A500#32, [t0, t1, t0, t1, t1, t1]),
  (.sbbRm16Imm16 (.reg 3#3) 0x1234#16, false, 3#3, 0xA5A51234#32, 0xA5A5A5A5#32, 0xA5A50000#32, [t0, t0, t0, t1, t0, t1]),
  (.sbbRm32Imm32 (.reg 3#3) 0x80000000#32, false, 3#3, 0x7FFFFFFF#32, 0xA5A5A5A5#32, 0xFFFFFFFF#32, [t1, t1, t1, t0, t0, t1]),
  (.sbbRm16Imm8 (.reg 3#3) 0xFF#8, true, 3#3, 0xA5A50005#32, 0xA5A5A5A5#32, 0xA5A50005#32, [t1, t0, t0, t0, t1, t1]),
  (.sbbRm32Imm8 (.reg 3#3) 0x80#8, false, 3#3, 0x00000100#32, 0xA5A5A5A5#32, 0x00000180#32, [t1, t0, t0, t0, t0, t0]),
  (.sbbRm8R8 (.reg 3#3) 2#3, true, 3#3, 0xA5A5A510#32, 0xA5A5A501#32, 0xA5A5A50E#32, [t0, t0, t0, t0, t1, t0]),
  (.sbbRm16R16 (.reg 3#3) 2#3, true, 3#3, 0xA5A50000#32, 0xA5A5FFFF#32, 0xA5A50000#32, [t1, t0, t0, t1, t1, t1]),
  (.sbbRm32R32 (.reg 3#3) 2#3, true, 3#3, 0xFFFFFFFF#32, 0xFFFFFFFF#32, 0xFFFFFFFF#32, [t1, t0, t1, t0, t1, t1]),
  (.sbbR8Rm8 3#3 (.reg 2#3), false, 3#3, 0xA5A5A57F#32, 0xA5A5A5FF#32, 0xA5A5A580#32, [t1, t1, t1, t0, t0, t0]),
  (.sbbR16Rm16 3#3 (.reg 2#3), true, 3#3, 0xA5A50100#32, 0xA5A50001#32, 0xA5A500FE#32, [t0, t0, t0, t0, t1, t0]),
  (.sbbR32Rm32 3#3 (.reg 2#3), false, 3#3, 0x80000000#32, 0x00000001#32, 0x7FFFFFFF#32, [t0, t1, t0, t0, t1, t1]),
  (.subAlImm8 0x01#8, false, 0#3, 0xA5A5A500#32, 0xA5A5A5A5#32, 0xA5A5A5FF#32, [t1, t0, t1, t0, t1, t1]),
  (.subAxImm16 0x0001#16, false, 0#3, 0xA5A58000#32, 0xA5A5A5A5#32, 0xA5A57FFF#32, [t0, t1, t0, t0, t1, t1]),
  (.subEaxImm32 0xFFFFFFFF#32, false, 0#3, 0x00000000#32, 0xA5A5A5A5#32, 0x00000001#32, [t1, t0, t0, t0, t1, t0]),
  (.subRm8Imm8 (.reg 3#3) 0x7F#8, false, 3#3, 0xA5A5A580#32, 0xA5A5A5A5#32, 0xA5A5A501#32, [t0, t1, t0, t0, t1, t0]),
  (.subRm16Imm16 (.reg 3#3) 0x1234#16, false, 3#3, 0xA5A51234#32, 0xA5A5A5A5#32, 0xA5A50000#32, [t0, t0, t0, t1, t0, t1]),
  (.subRm32Imm32 (.reg 3#3) 0x80000000#32, false, 3#3, 0x7FFFFFFF#32, 0xA5A5A5A5#32, 0xFFFFFFFF#32, [t1, t1, t1, t0, t0, t1]),
  (.subRm16Imm8 (.reg 3#3) 0xFF#8, false, 3#3, 0xA5A50005#32, 0xA5A5A5A5#32, 0xA5A50006#32, [t1, t0, t0, t0, t1, t1]),
  (.subRm32Imm8 (.reg 3#3) 0x80#8, false, 3#3, 0x00000100#32, 0xA5A5A5A5#32, 0x00000180#32, [t1, t0, t0, t0, t0, t0]),
  (.subRm8R8 (.reg 3#3) 2#3, false, 3#3, 0xA5A5A510#32, 0xA5A5A501#32, 0xA5A5A50F#32, [t0, t0, t0, t0, t1, t1]),
  (.subRm16R16 (.reg 3#3) 2#3, false, 3#3, 0xA5A50000#32, 0xA5A5FFFF#32, 0xA5A50001#32, [t1, t0, t0, t0, t1, t0]),
  (.subRm32R32 (.reg 3#3) 2#3, false, 3#3, 0xFFFFFFFF#32, 0xFFFFFFFF#32, 0x00000000#32, [t0, t0, t0, t1, t0, t1]),
  (.subR8Rm8 3#3 (.reg 2#3), false, 3#3, 0xA5A5A57F#32, 0xA5A5A5FF#32, 0xA5A5A580#32, [t1, t1, t1, t0, t0, t0]),
  (.subR16Rm16 3#3 (.reg 2#3), false, 3#3, 0xA5A50100#32, 0xA5A50001#32, 0xA5A500FF#32, [t0, t0, t0, t0, t1, t1]),
  (.subR32Rm32 3#3 (.reg 2#3), false, 3#3, 0x80000000#32, 0x00000001#32, 0x7FFFFFFF#32, [t0, t1, t0, t0, t1, t1]),
  (.sbbRm8R8 (.reg 3#3) 2#3, true, 3#3, 0xA5A5A500#32, 0xA5A5A500#32, 0xA5A5A5FF#32, [t1, t0, t1, t0, t1, t1]),
  (.sbbRm8R8 (.reg 3#3) 2#3, false, 3#3, 0xA5A5A57F#32, 0xA5A5A5FF#32, 0xA5A5A580#32, [t1, t1, t1, t0, t0, t0]),
  (.sbbRm8R8 (.reg 3#3) 2#3, true, 3#3, 0xA5A5A57F#32, 0xA5A5A5FF#32, 0xA5A5A57F#32, [t1, t0, t0, t0, t1, t0]),
  (.sbbRm8R8 (.reg 3#3) 2#3, false, 3#3, 0xA5A5A500#32, 0xA5A5A580#32, 0xA5A5A580#32, [t1, t1, t1, t0, t0, t0]),
  (.sbbRm8R8 (.reg 3#3) 2#3, true, 3#3, 0xA5A5A500#32, 0xA5A5A5FF#32, 0xA5A5A500#32, [t1, t0, t0, t1, t1, t1]),
  (.sbbRm8R8 (.reg 3#3) 2#3, true, 3#3, 0xA5A5A510#32, 0xA5A5A50F#32, 0xA5A5A500#32, [t0, t0, t0, t1, t1, t1]),
  (.sbbRm16R16 (.reg 3#3) 2#3, true, 3#3, 0xA5A58000#32, 0xA5A50000#32, 0xA5A57FFF#32, [t0, t1, t0, t0, t1, t1]),
  (.sbbRm32R32 (.reg 3#3) 2#3, true, 3#3, 0x80000000#32, 0x7FFFFFFF#32, 0x00000000#32, [t0, t1, t0, t1, t1, t1]),
  (.sbbRm32R32 (.reg 3#3) 2#3, false, 3#3, 0xDEADBEEF#32, 0x12345678#32, 0xCC796877#32, [t0, t0, t1, t0, t0, t1])] : List (Instr × Bool × RegNum × Word32 × Word32 × Word32 × List (Option Bool))).all subOk = true := by
  decide

/-- 95_test_vectors.md 2.3, the memory form of `29 13`. -/
theorem test_subtract_memory :
    after (exec (.subRm32R32 (.mem ebx0) 2#3)
      (load (regs prot 0#32 0#32 1#32 0x1000#32 0#32) 0x1000 [0x10#8, 0#8, 0#8, 0#8])) (fun t =>
      t.byteAt 0x1000#32 == 0x0F#8 && t.byteAt 0x1001#32 == 0#8 && flagsAre t.flags [t0, t0, t0, t0, t1, t1]) = true := by
  decide

/-! ## SCAS and STOS -/

/-- The examples of R219 to R224 and vectors C1 to C4. -/
theorem test_scas :
    after (exec (.scasM8 .s32) (load (regs prot 0x41#32 0#32 0#32 0#32 0x1000#32) 0x1000 [0x42#8])) (fun t =>
      flagsAre t.flags [t1, t0, t1, t0, t1, t1] && t.reg32 7#3 == 0x1001#32 && t.reg32 0#3 == 0x41#32) = true ∧
    after (exec (.scasM16 .s32) (load ((regs prot 0x1234#32 0#32 0#32 0#32 0x2000#32).withFlags
      { prot.flags with df := true }) 0x2000 [0x35#8, 0x12#8])) (fun t =>
      flagsAre t.flags [t1, t0, t1, t0, t1, t1] && t.reg32 7#3 == 0x1FFE#32) = true ∧
    after (exec (.scasM32 .s32) (load (regs prot 0#32 0#32 0#32 0#32 0x3000#32) 0x3000 [0#8, 0#8, 0#8, 0x80#8])) (fun t =>
      flagsAre t.flags [t1, t1, t1, t0, t0, t1] && t.reg32 7#3 == 0x3004#32) = true ∧
    after (exec (.scasb .s32) (load (regs prot 0x41#32 0#32 0#32 0#32 0x1000#32) 0x1000 [0x41#8])) (fun t =>
      flagsAre t.flags [t0, t0, t0, t1, t0, t1] && t.reg32 7#3 == 0x1001#32) = true ∧
    after (exec (.scasw .s16) (load (regs prot 0x8000#32 0#32 0#32 0#32 0xABCDFFFE#32) 0xFFFE [1#8, 0#8])) (fun t =>
      flagsAre t.flags [t0, t1, t0, t0, t1, t1] && t.reg32 7#3 == 0xABCD0000#32) = true ∧
    after (exec (.scasd .s32) (load ((regs prot 0x12345678#32 0#32 0#32 0#32 0#32).withFlags
      { prot.flags with df := true }) 0 [0x78#8, 0x56#8, 0x34#8, 0x12#8])) (fun t =>
      flagsAre t.flags [t0, t0, t0, t1, t0, t1] && t.reg32 7#3 == 0xFFFFFFFC#32) = true := by
  decide

/-- Vectors C1, C3 and C6. -/
theorem test_scas_edges :
    after (exec (.scasb .s32) (load (regs prot 0#32 0#32 0#32 0#32 0xFFFFFFFF#32) 0xFFFFFFFF [0#8])) (fun t =>
      flagsAre t.flags [t0, t0, t0, t1, t0, t1] && t.reg32 7#3 == 0#32) = true ∧
    after (exec (.scasb .s16) (load ((regs prot 0x7F#32 0#32 0#32 0#32 0x12340000#32).withFlags
      { prot.flags with df := true }) 0 [0xFF#8])) (fun t =>
      flagsAre t.flags [t1, t1, t1, t0, t0, t0] && t.reg32 7#3 == 0x1234FFFF#32) = true ∧
    raised (exec (.scasd .s32) { prot with es := flatSeg 0#16 0b0011#4 }) (.gp (some 0)) = true := by
  decide

/-- The examples of R366 to R371. -/
theorem test_stos :
    after (exec (.stosM8 .s32) (regs prot 0x5A#32 0#32 0#32 0#32 0x1000#32)) (fun t =>
      t.mem == [(0x1000, 0x5A#8)] && t.reg32 7#3 == 0x1001#32 && t.flags == prot.flags) = true ∧
    after (exec (.stosM16 .s32) ((regs prot 0x1234#32 0#32 0#32 0#32 0x2000#32).withFlags { prot.flags with df := true }))
      (fun t => t.mem == [(0x2000, 0x34#8), (0x2001, 0x12#8)] && t.reg32 7#3 == 0x1FFE#32) = true ∧
    after (exec (.stosM32 .s32) (regs prot 0xDEADBEEF#32 0#32 0#32 0#32 0x3000#32)) (fun t =>
      t.mem == [(0x3000, 0xEF#8), (0x3001, 0xBE#8), (0x3002, 0xAD#8), (0x3003, 0xDE#8)] && t.reg32 7#3 == 0x3004#32) =
        true ∧
    after (exec (.stosb .s32) ((regs prot 0#32 0#32 0#32 0#32 0x1000#32).withFlags { prot.flags with df := true }))
      (fun t => t.mem == [(0x1000, 0#8)] && t.reg32 7#3 == 0xFFF#32) = true ∧
    after (exec (.stosw .s16) (regs prot 0xBEEF#32 0#32 0#32 0#32 0xABCDFFFE#32)) (fun t =>
      t.mem == [(0xFFFE, 0xEF#8), (0xFFFF, 0xBE#8)] && t.reg32 7#3 == 0xABCD0000#32) = true ∧
    after (exec (.stosd .s32) (regs prot 0#32 0#32 0#32 0#32 0x4000#32)) (fun t =>
      t.byteAt 0x4003#32 == 0#8 && t.reg32 7#3 == 0x4004#32) = true := by
  decide

/-- Vectors O4, O5 and O6. -/
theorem test_stos_faults :
    raised (exec (.stosb .s32) { prot with es := flatSeg 0x18#16 0b0001#4 }) (.gp (some 0)) = true ∧
    raised (exec (.stosd .s32) (regs { prot with es := { flatSeg 0x18#16 0b0011#4 with g := false, limit := 0xFFF#20 } }
      0#32 0#32 0#32 0#32 0xFFD#32)) (.gp (some 0)) = true ∧
    raised (exec (.stosw .s32) (regs { prot with cr0 := 0x40001#32, cpl := 3#2, flags := { prot.flags with ac := true } }
      0#32 0#32 0#32 0#32 1#32)) (.ac 0) = true := by
  decide

/-! ## SETcc -/

/-- The sixteen conditions in the order of the table. -/
def conditions : List (RM → Instr) :=
  [.seto, .setno, .setb, .setae, .sete, .setne, .setbe, .seta, .sets, .setns, .setp, .setnp, .setl, .setge, .setle, .setg]

/-- 95_test_vectors.md 2.5: CF OF SF ZF PF, then the byte of each condition. -/
theorem test_setcc_table : ([
  ([false, false, false, false, false], [0, 1, 0, 1, 0, 1, 0, 1, 0, 1, 0, 1, 0, 1, 0, 1]),
  ([true, false, true, false, false], [0, 1, 1, 0, 0, 1, 1, 0, 1, 0, 0, 1, 1, 0, 1, 0]),
  ([false, false, false, true, true], [0, 1, 0, 1, 1, 0, 1, 0, 0, 1, 1, 0, 0, 1, 1, 0]),
  ([false, true, false, false, false], [1, 0, 0, 1, 0, 1, 0, 1, 0, 1, 0, 1, 1, 0, 1, 0]),
  ([true, true, true, false, true], [1, 0, 1, 0, 0, 1, 1, 0, 1, 0, 1, 0, 0, 1, 0, 1]),
  ([true, true, true, false, false], [1, 0, 1, 0, 0, 1, 1, 0, 1, 0, 0, 1, 0, 1, 0, 1]),
  ([false, false, true, false, false], [0, 1, 0, 1, 0, 1, 0, 1, 1, 0, 0, 1, 1, 0, 1, 0]),
  ([true, true, true, false, false], [1, 0, 1, 0, 0, 1, 1, 0, 1, 0, 0, 1, 0, 1, 0, 1])] : List (List Bool × List Nat)).all (fun v =>
    (List.zipWith (fun (c : RM → Instr) (n : Nat) =>
      after (exec (c (.reg 3#3)) (withStatus prot v.1)) fun t => (t.reg32 3#3).toNat == n) conditions v.2).all id) = true := by
  decide

/-- The example of each row R240 to R269: flags that give 01h, flags that give 00h (over FFh). -/
theorem test_setcc_rows : ([
  (.seta (.reg 3#3), [false, false, false, false, false], [true, false, true, false, false]),
  (.setae (.reg 3#3), [false, false, false, false, false], [true, false, true, false, false]),
  (.setb (.reg 3#3), [true, false, true, false, false], [false, false, false, false, false]),
  (.setbe (.reg 3#3), [true, false, true, false, false], [false, false, false, false, false]),
  (.setc (.reg 3#3), [true, false, true, false, false], [false, false, false, false, false]),
  (.sete (.reg 3#3), [false, false, false, true, true], [false, false, false, false, false]),
  (.setg (.reg 3#3), [false, false, false, false, false], [true, false, true, false, false]),
  (.setge (.reg 3#3), [false, false, false, false, false], [true, false, true, false, false]),
  (.setl (.reg 3#3), [true, false, true, false, false], [false, false, false, false, false]),
  (.setle (.reg 3#3), [true, false, true, false, false], [false, false, false, false, false]),
  (.setna (.reg 3#3), [true, false, true, false, false], [false, false, false, false, false]),
  (.setnae (.reg 3#3), [true, false, true, false, false], [false, false, false, false, false]),
  (.setnb (.reg 3#3), [false, false, false, false, false], [true, false, true, false, false]),
  (.setnbe (.reg 3#3), [false, false, false, false, false], [true, false, true, false, false]),
  (.setnc (.reg 3#3), [false, false, false, false, false], [true, false, true, false, false]),
  (.setne (.reg 3#3), [false, false, false, false, false], [false, false, false, true, true]),
  (.setng (.reg 3#3), [true, false, true, false, false], [false, false, false, false, false]),
  (.setnge (.reg 3#3), [true, false, true, false, false], [false, false, false, false, false]),
  (.setnl (.reg 3#3), [false, false, false, false, false], [true, false, true, false, false]),
  (.setnle (.reg 3#3), [false, false, false, false, false], [true, false, true, false, false]),
  (.setno (.reg 3#3), [false, false, false, false, false], [false, true, false, false, false]),
  (.setnp (.reg 3#3), [false, false, false, false, false], [false, false, false, true, true]),
  (.setns (.reg 3#3), [false, false, false, false, false], [true, false, true, false, false]),
  (.setnz (.reg 3#3), [false, false, false, false, false], [false, false, false, true, true]),
  (.seto (.reg 3#3), [false, true, false, false, false], [false, false, false, false, false]),
  (.setp (.reg 3#3), [false, false, false, true, true], [false, false, false, false, false]),
  (.setpe (.reg 3#3), [false, false, false, true, true], [false, false, false, false, false]),
  (.setpo (.reg 3#3), [false, false, false, false, false], [false, false, false, true, true]),
  (.sets (.reg 3#3), [true, false, true, false, false], [false, false, false, false, false]),
  (.setz (.reg 3#3), [false, false, false, true, true], [false, false, false, false, false])] : List (Instr × List Bool × List Bool)).all (fun v =>
    after (exec v.1 (withStatus prot v.2.1)) (fun t => t.reg32 3#3 == 1#32) &&
    after (exec v.1 (withStatus (regs prot 0#32 0#32 0#32 0xFFFFFFFF#32 0#32) v.2.2)) (fun t =>
      t.reg32 3#3 == 0xFFFFFF00#32)) = true := by
  decide

/-- 95_test_vectors.md 2.5: `0F 94 C4` writes bits 15:8 only. -/
theorem test_setcc_ah :
    after (exec (.sete (.reg 4#3)) (withStatus (regs prot 0x12345678#32 0#32 0#32 0#32 0#32)
      [false, false, false, true, false])) (fun t => t.reg32 0#3 == 0x12340178#32) = true := by
  decide

/-! ## SGDT, SIDT, SLDT, SMSW, STR -/

/-- The registers of 95_test_vectors.md 2.6 and 2.8. -/
def sysState : State :=
  { regs prot 0#32 0#32 0#32 0x1000#32 0#32 with
    gdtr := { limit := 0x3FF#16, base := 0x8003F000#32 }, idtr := { limit := 0x7FF#16, base := 0x80036400#32 },
    ldtr := 0x28#16, tr := 0x40#16, cr0 := 0x80010033#32 }

/-- The listed bytes of a next state's memory. -/
def storedBytes (r : Result) (bs : List Nat) : Bool :=
  after r fun t => t.mem.map (fun c => c.2.toNat) == bs && t.mem.map (·.1) == (List.range bs.length).map (· + 0x1000)

/-- Vectors G1 to G5. -/
theorem test_table_store :
    storedBytes (exec (.sgdt .s32 (.mem ebx0)) sysState) [0xFF, 0x03, 0x00, 0xF0, 0x03, 0x80] = true ∧
    storedBytes (exec (.sgdt .s16 (.mem ebx0)) sysState) [0xFF, 0x03, 0x00, 0xF0, 0x03, 0x00] = true ∧
    storedBytes (exec (.sgdt .s16 (.mem ebx0)) (on .i286 sysState)) [0xFF, 0x03, 0x00, 0xF0, 0x03, 0xFF] = true ∧
    storedBytes (exec (.sidt .s32 (.mem ebx0)) sysState) [0xFF, 0x07, 0x00, 0x64, 0x03, 0x80] = true ∧
    raised (exec (.sgdt .s32 (.reg 3#3)) sysState) .ud = true ∧ raised (exec (.sidt .s32 (.reg 3#3)) State.reset) .ud = true := by
  decide

/-- Vectors G6 to G8. -/
theorem test_table_store_checks :
    raised (exec (.sgdt .s32 (.mem ebx0))
      { sysState with ds := { flatSeg 0x18#16 0b0011#4 with g := false, limit := 0x1004#20 } }) (.gp (some 0)) = true ∧
    storedBytes (exec (.sgdt .s32 (.mem ebx0)) { sysState with cpl := 3#2 }) [0xFF, 0x03, 0x00, 0xF0, 0x03, 0x80] = true ∧
    raised (exec (.sgdt .s32 (.mem ebx0))
      { sysState with cpl := 3#2, cr0 := 0x80050033#32, flags := { prot.flags with ac := true } }) (.ac 0) = true := by
  decide

/-- Vectors T1, T2, T4 and T5. -/
theorem test_sldt :
    after (exec (.sldtRm16 (.reg 3#3)) (sysState.setReg32 3#3 0x12345678#32)) (fun t => t.reg32 3#3 == 0x12340028#32) = true ∧
    after (exec (.sldtRm32 (.reg 3#3)) (sysState.setReg32 3#3 0x12345678#32)) (fun t => t.reg32 3#3 == 0x28#32) = true ∧
    raised (exec (.sldtRm32 (.reg 3#3)) State.reset) .ud = true ∧
    storedBytes (exec (.sldtRm32 (.mem ebx0)) sysState) [0x28, 0x00] = true := by
  decide

/-- Vectors T9 and T11, and real-address mode. -/
theorem test_smsw :
    after (exec (.smswRm16 (.reg 3#3)) (sysState.setReg32 3#3 0x12345678#32)) (fun t => t.reg32 3#3 == 0x12340033#32) = true ∧
    storedBytes (exec (.smswR32M16 (.mem ebx0)) sysState) [0x33, 0x00] = true ∧
    storedBytes (exec (.smswRm16 (.mem ebx0)) { sysState with cr0 := 0x10#32, ds := SegReg.reset }) [0x10, 0x00] = true := by
  decide

/-- Vectors T3 and T10: a drawn high half over the value. -/
theorem test_undefined_high_half :
    exec (.sldtRm32 (.reg 3#3)) (on .pentium sysState) =
      .next ((((on .pentium sysState).setReg32 3#3 ((on .pentium sysState).draw 16 0 ++ 0x28#16)).spend 1).withIntShadow
        false) ∧
    exec (.smswR32M16 (.reg 3#3)) (on .i286 sysState) =
      .next ((((on .i286 sysState).setReg32 3#3 ((on .i286 sysState).draw 16 0 ++ 0x33#16)).spend 1).withIntShadow
        false) := ⟨rfl, rfl⟩

/-- Vectors T6 to T8 and the example of R375. -/
theorem test_str :
    after (exec (.strRm16 .s16 (.reg 3#3)) (sysState.setReg32 3#3 0x12345678#32)) (fun t => t.reg32 3#3 == 0x12340040#32) =
      true ∧
    after (exec (.strRm16 .s32 (.reg 3#3)) (sysState.setReg32 3#3 0x12345678#32)) (fun t => t.reg32 3#3 == 0x40#32) = true ∧
    raised (exec (.strRm16 .s32 (.reg 3#3)) State.reset) .ud = true ∧
    storedBytes (exec (.strRm16 .s32 (.mem ebx0)) sysState) [0x40, 0x00] = true := by
  decide

/-! ## SAHF, STC, STD, STI -/

/-- The table of X1: AH, EFLAGS[7:0] after. -/
theorem test_sahf : ([(0x00, 0x02), (0xFF, 0xD7), (0x2A, 0x02), (0xD5, 0xD7), (0x81, 0x83), (0x44, 0x46), (0x10, 0x12)] :
    List (Nat × Nat)).all (fun v =>
      after (exec .sahf (prot.setReg32 0#3 (BitVec.ofNat 32 (v.1 * 256)))) fun t => t.flags.toWord.toNat == v.2) = true := by
  decide

/-- 95_test_vectors.md 2.1: OF and IF untouched. -/
theorem test_sahf_keeps :
    after (exec .sahf (allSet (prot.withFlags { prot.flags with ifl := true }))) (fun t => t.flags.toWord == 0xA02#32) =
      true := by
  decide

/-- Vectors F1 and F3. -/
theorem test_stc_std :
    after (exec .stc prot) (fun t => t.flags.toWord == 3#32) = true ∧
    after (exec .std prot) (fun t => t.flags.toWord == 0x402#32) = true := by
  decide

/-- STI with PE, VM, CPL and IOPL as given. -/
def stiCase (pe vm : Bool) (cpl iopl : BitVec 2) : Result :=
  exec .sti { State.reset with
    cr0 := if pe then 1#32 else 0#32, cpl := cpl, flags := { prot.flags with vm := vm, iopl := iopl } }

/-- The table of X10. -/
theorem test_sti :
    after (stiCase false false 0#2 0#2) (·.flags.ifl) = true ∧ after (stiCase true false 0#2 0#2) (·.flags.ifl) = true ∧
    after (stiCase true false 3#2 3#2) (·.flags.ifl) = true ∧ after (stiCase true false 2#2 2#2) (·.flags.ifl) = true ∧
    raised (stiCase true false 1#2 0#2) (.gp (some 0)) = true ∧ raised (stiCase true false 3#2 0#2) (.gp (some 0)) = true ∧
    raised (stiCase true false 3#2 2#2) (.gp (some 0)) = true ∧ after (stiCase true true 3#2 3#2) (·.flags.ifl) = true ∧
    raised (stiCase true true 3#2 2#2) (.gp (some 0)) = true ∧ raised (stiCase true true 3#2 0#2) (.gp (some 0)) = true := by
  decide

/-- Vectors F4 and F6. -/
theorem test_sti_shadow :
    after (exec .sti prot) (fun t => t.flags.toWord == 0x202#32 && t.intShadow) = true ∧
    after (exec .sti (prot.withFlags { prot.flags with ifl := true })) (fun t => !t.intShadow) = true := by
  decide

/-! ## SYSENTER and SYSEXIT -/

/-- The start of Y1 with another SYSENTER_CS_MSR. -/
def enterState (m : Word16) : State :=
  { regs prot 0#32 0x12FFC0#32 0x401002#32 0#32 0#32 with
    cpl := 3#2, sysenterCs := m, sysenterEsp := 0x80001000#32, sysenterEip := 0x80100000#32,
    flags := { prot.flags with ifl := true } }

/-- Vectors Y1, Y2, Y3, Y5, Y6, Y9, Y11. -/
theorem test_sysenter :
    after (exec .sysenter (enterState 0x10#16)) (fun t => t.cs == sysenterCsSeg 0x10#16 && t.cs.sel == 0x10#16 &&
      t.ss.sel == 0x18#16 && t.cpl == 0#2 && t.reg32 4#3 == 0x80001000#32 && t.eip == 0x80100000#32 && !t.flags.ifl &&
      t.cs.byteLimit == 0xFFFFFFFF) = true ∧
    raised (exec .sysenter (enterState 0#16)) (.gp (some 0)) = true ∧
    raised (exec .sysenter { enterState 0x10#16 with cr0 := 0#32 }) (.gp (some 0)) = true ∧
    after (exec .sysenter (enterState 0x13#16)) (fun t => t.cs.sel == 0x10#16 && t.ss.sel == 0x18#16) = true ∧
    after (exec .sysenter (enterState 0x14#16)) (fun t => t.cs.sel == 0x14#16 && t.ss.sel == 0x1C#16) = true ∧
    raised (exec .sysenter (on .pentiumPro (enterState 0x10#16))) .ud = true ∧
    after (exec .sysenter (enterState 1#16)) (fun t => t.cs.sel == 0#16 && t.ss.sel == 8#16) = true := by
  decide

/-- Vectors Y7, Y8, Y10. -/
theorem test_sysexit :
    after (exec .sysexit { enterState 0x10#16 with cpl := 0#2 }) (fun t => t.cs.sel == 0x23#16 && t.ss.sel == 0x2B#16 &&
      t.cpl == 3#2 && t.reg32 4#3 == 0x12FFC0#32 && t.eip == 0x401002#32 && t.flags == (enterState 0#16).flags) = true ∧
    raised (exec .sysexit (enterState 0x10#16)) (.gp (some 0)) = true ∧
    after (exec .sysexit { enterState 0x13#16 with cpl := 0#2 }) (fun t => t.cs.sel == 0x23#16 && t.ss.sel == 0x2B#16) =
      true := by
  decide

/-- The table of X12. -/
theorem test_facility :
    fastSystemCallPresent ⟨.pentiumII, false, 6, 3, 3⟩ = false ∧ fastSystemCallPresent ⟨.pentiumPro, true, 6, 1, 1⟩ = false ∧
    fastSystemCallPresent ⟨.pentiumPro, true, 6, 1, 9⟩ = false ∧ fastSystemCallPresent ⟨.pentiumII, true, 6, 2, 2⟩ = false ∧
    fastSystemCallPresent ⟨.pentiumII, true, 6, 3, 2⟩ = true ∧ fastSystemCallPresent ⟨.pentiumII, true, 6, 5, 0⟩ = true ∧
    fastSystemCallPresent ⟨.pentiumII, true, 5, 0, 0⟩ = true := by
  decide

/-! ## Memory checks -/

/-- `SUB [EBX],EDX` of 95_test_vectors.md 2.12, at CPL 3. -/
def sub13 (s : State) (seg : Option SegName) (ebx : Word32) : Result :=
  exec (.subRm32R32 (.mem { ebx0 with override := seg }) 2#3) ({ s with cpl := 3#2 }.setReg32 3#3 ebx)

/-- Alignment checking enabled. -/
def aligned (s : State) : State := { s with cr0 := s.cr0 ||| 0x40000#32, flags := { s.flags with ac := true } }

/-- Vectors M1, M3, M4, M6, M7. -/
theorem test_memory_checks :
    raised (sub13 { prot with ds := flatSeg 0#16 0b0011#4 } none 0#32) (.gp (some 0)) = true ∧
    raised (sub13 { prot with ss := { flatSeg 0x18#16 0b0011#4 with g := false } } (some .ss) 0xFFFFE#32) (.ss (some 0)) =
      true ∧
    raised (sub13 (aligned prot) none 0x1001#32) (.ac 0) = true ∧
    raised (sub13 { prot with pageFaults := [⟨0x1000#32, 4, .readwrite, 3#2, 7, 0x1000#32⟩] } none 0x1000#32)
      (.pf 7 0x1000#32) = true ∧
    raised (exec (.subRm16R16 (.mem ⟨.a16 (.base .bx .none), none⟩) 2#3) (State.reset.setReg32 3#3 0xFFFF#32)) (.gp none) =
      true := by
  decide

/-! ## One step from memory -/

/-- P1's first instruction, fetched; EIP advances by 2. -/
theorem test_step_fetches :
    after (step (regs (code prot [0x2B#8, 0xC3#8]) 0#32 0#32 1#32 1#32 0#32)) (fun t =>
      t.eip == 0x1002#32 && t.reg32 0#3 == 0xFFFFFFFF#32 && flagsAre t.flags [t1, t0, t1, t0, t1, t1]) = true := by
  decide

/-- A LOCK byte, a REP byte, bytes outside the tables, fifteen prefix bytes. -/
theorem test_step_refuses :
    refusedWith (step (code prot [0xF0#8, 0x29#8, 0x13#8])) .lockPrefix = true ∧
    refusedWith (step (code prot [0xF3#8, 0xAB#8])) .repPrefix = true ∧
    refusedWith (step (code prot [0xD1#8, 0xD0#8])) .notInScope = true ∧
    raised (step (code prot (List.replicate 15 0x66#8))) (.gp (some 0)) = true ∧
    refusedWith (step (code (on .i286 prot) (List.replicate 15 0x66#8))) .instructionTooLong = true := by
  decide

/-- R453: the CS limit in the middle of an instruction, and a page fault on a fetch. -/
theorem test_step_fetch_faults :
    raised (step (code { prot with cs := { flatSeg 0x10#16 0b1011#4 with g := false, limit := 0x1001#20 } }
      [0x0F#8, 0x94#8, 0xC0#8])) (.gp (some 0)) = true ∧
    raised (step (code { prot with pageFaults := [⟨0x1000#32, 1, .fetch, 0#2, 4, 0x1000#32⟩] } [0xF9#8])) (.pf 4 0x1000#32) =
      true := by
  decide

/-- R462: NMI, an external interrupt, the STI window, IF = 0. -/
theorem test_step_interrupts :
    interrupted (step { prot with inputs := [⟨true, true, none⟩] }) .nmi = true ∧
    interrupted (step { prot with inputs := [⟨false, true, none⟩], flags := { prot.flags with ifl := true } }) .external =
      true ∧
    after (step { code prot [0xF9#8] with
      inputs := [⟨false, true, none⟩], flags := { prot.flags with ifl := true }, intShadow := true }) (fun t =>
        t.flags.cf && !t.intShadow && t.inputs == []) = true ∧
    after (step { code prot [0xF9#8] with inputs := [⟨false, true, none⟩] }) (fun t => t.flags.cf) = true := by
  decide

/-- `withFetchWord` places an instruction where the next step runs it, from the reset state. -/
theorem test_fetch_word : after (step (State.reset.withFetchWord 8 0xFD)) (fun t => t.flags.df && t.eip == 1#32) = true := by
  decide

/-! ## Witnesses: for each statement with hypotheses, a state and operands that meet them, clause by clause -/

/-- `[BX]` with AddressSize 16. -/
def bx0 : MemRef := { ea := .a16 (.base .bx .none), override := none }

/-- The last doubleword of a flat segment is at `[EBX]`. -/
def edge : State := prot.setReg32 3#3 0xFFFFFFFC#32

/-- The last word of a real-address segment is at `[BX]`. -/
def realEdge : State := State.reset.setReg32 3#3 0xFFFE#32

/-- ES:DI and ES:EDI at the last byte of a real-address segment. -/
def stringEdge : State := State.reset.setReg32 7#3 0xFFFF#32

/-- One instruction byte, the last the real-address CS limit allows. -/
def lastByte (bs : List Byte) : State := (load State.reset 0xFFFF bs).withEip 0xFFFF#32

/-- In these states an access is accessible where its segment is a proper data segment and its bytes are inside the limit. -/
theorem accessible_of {s : State} {l : Loc} {n : Nat} {k : AccessKind}
    (h : (s.mode ≠ .protectedMode ∨ (4 ≤ (s.seg l.seg).sel.toNat ∧ (s.seg l.seg).typ = 0b0011#4)) ∧
      l.off.toNat + n ≤ (s.seg l.seg).byteLimit + 1 ∧ s.cpl = 0#2 ∧ s.pageFaults = []) : Accessible s l n k := by
  obtain ⟨hm, hl, hc, hp⟩ := h
  unfold Accessible
  rcases hm with hm | ⟨hs, ht⟩
  · simp [hm, hl, hc, hp]
  · simp [hs, ht, hl, hc, hp, SegReg.expandDown]

theorem edge_accessible (k : AccessKind) : RmAccessible edge (.mem ebx0) 4 k := by
  exact accessible_of (by decide)

theorem realEdge_accessible (k : AccessKind) : RmAccessible realEdge (.mem bx0) 2 k := by
  exact accessible_of (by decide)

theorem witness_DecodeEncode :
    (Instr.sbbRm32Imm32 (.mem ⟨.a32 (.sib 3#2 (some 7#3) 5#3 (.d32 0x80000000#32)), some .gs⟩) 0xFFFFFFFF#32).wf = true := by
  decide

/-- LOCK after another prefix, REPNE, REP. -/
theorem witness_LockAndRepRefused :
    ((∀ b ∈ [0x66#8, 0xF0#8], b ∈ prefixBytes) ∧ 0x29#8 ∉ prefixBytes ∧ 0xF0#8 ∈ [0x66#8, 0xF0#8]) ∧
    ((∀ b ∈ [0x67#8, 0xF2#8], b ∈ prefixBytes) ∧ 0xAE#8 ∉ prefixBytes ∧ 0xF0#8 ∉ [0x67#8, 0xF2#8] ∧
      (0xF2#8 ∈ [0x67#8, 0xF2#8] ∨ 0xF3#8 ∈ [0x67#8, 0xF2#8])) ∧
    ((∀ b ∈ [0xF3#8], b ∈ prefixBytes) ∧ 0xAB#8 ∉ prefixBytes ∧ 0xF0#8 ∉ [0xF3#8] ∧ (0xF2#8 ∈ [0xF3#8] ∨ 0xF3#8 ∈ [0xF3#8])) := by
  decide

/-- Fourteen prefix bytes and an opcode at CS:EIP. -/
theorem witness_LockAndRepRefused_step :
    let pre := List.replicate 13 0x66#8 ++ [0xF3#8]
    let u := passBoundary (code prot (pre ++ [0xAB#8]))
    quiet (code prot (pre ++ [0xAB#8])) ∧ pre.length ≤ 14 ∧ codeAt u (pre ++ [0xAB#8]) ∧ codeInside u (pre.length + 1) := by
  refine ⟨⟨by decide, by decide⟩, by decide, ?_, by unfold codeInside; decide⟩
  unfold codeAt
  decide

theorem witness_IgnoredPrefixes :
    (Instr.sysexit.wf = true ∧ ∀ b ∈ [0x66#8, 0x67#8, 0x2E#8], idlePrefix .sysexit b) ∧
    ((Instr.setg (.mem bx0)).wf = true ∧ ∀ b ∈ [0x66#8], idlePrefix (.setg (.mem bx0)) b) ∧
    (∀ b ∈ [0x66#8, 0x67#8], idlePrefix (.setg (.reg 2#3)) b) ∧
    (∀ b ∈ [0x67#8, 0x65#8], idlePrefix (.shldRm32R32Cl (.reg 7#3) 0#3) b) ∧
    (∀ b ∈ [0x66#8], idlePrefix (.subR8Rm8 1#3 (.mem bx0)) b) ∧
    (∀ b ∈ [0x66#8, 0x26#8], idlePrefix (.stosb .s16) b) ∧
    ((∀ p ∈ [0x26#8, 0xF3#8, 0x65#8], p ∈ prefixBytes) ∧ 0x26#8 ∈ [0x26#8, 0xF3#8, 0x65#8]) := by
  refine ⟨⟨by decide, ?_⟩, ⟨by decide, ?_⟩, ?_, ?_, ?_, ?_, by decide⟩ <;>
    simp [idlePrefix, noOperand, byteRow, segBytes, stringRow, dataAccess, rmAccess, setccRow, subRow, stosRow]

/-- SCASB, SUB r/m8 and SETcc under prefixes that have nothing to act on (R99). -/
theorem test_idle_prefixes :
    decode .s32 [0x66#8, 0x26#8, 0xAE#8] = .ok (.scasb .s32, []) ∧
    decode .s32 [0x66#8, 0x28#8, 0xD3#8] = .ok (.subRm8R8 (.reg 3#3) 2#3, []) ∧
    decode .s32 [0x67#8, 0x66#8, 0x0F#8, 0x9F#8, 0xC2#8] = .ok (.setg (.reg 2#3), []) := by
  decide

/-- Each way bytes can lie outside the tables. -/
theorem witness_OutOfScopeRefused :
    outsideTables [0x17#8] ∧ outsideTables [0xFE#8] ∧ outsideTables [0x0F#8, 0x33#8] ∧ outsideTables [0x0F#8, 0xA0#8] ∧
    outsideTables [0x81#8, 0xE0#8] ∧ outsideTables [0xD1#8, 0xF0#8] ∧ outsideTables [0x0F#8, 0x00#8, 0xD0#8] ∧
    outsideTables [0x0F#8, 0x01#8, 0xD3#8] :=
  ⟨.inl ⟨_, rfl, by decide⟩, .inl ⟨_, rfl, by decide⟩, .inr (.inl ⟨_, rfl, by decide⟩), .inr (.inl ⟨_, rfl, by decide⟩),
    .inr (.inr (.inl ⟨_, _, rfl, by decide⟩)), .inr (.inr (.inr (.inl ⟨_, _, rfl, by decide⟩))),
    .inr (.inr (.inr (.inr (.inl ⟨_, rfl, by decide⟩)))), .inr (.inr (.inr (.inr (.inr ⟨_, rfl, by decide⟩))))⟩

/-- After twelve prefix bytes, a three-byte group row, fifteen bytes at CS:EIP. -/
theorem witness_OutOfScopeRefused_step :
    let bs := List.replicate 12 0x67#8 ++ [0x0F#8, 0x01#8, 0xD3#8]
    let u := passBoundary (code prot bs)
    quiet (code prot bs) ∧ bs.length ≤ 15 ∧ codeAt u bs ∧ codeInside u bs.length := by
  refine ⟨⟨by decide, by decide⟩, by decide, ?_, by unfold codeInside; decide⟩
  unfold codeAt
  decide

theorem witness_StepRunsDecoded :
    let u := passBoundary (code prot [0x2B#8, 0xC3#8])
    quiet (code prot [0x2B#8, 0xC3#8]) ∧
    (∃ rest, decode (codeSize u) (fetchWindow u) = .ok (.subR32Rm32 0#3 (.reg 3#3), rest)) ∧
    (u.mode ≠ .realAddress → u.pageFault ((codeLoc u).lin u 0) 2 .fetch = none) := by
  refine ⟨⟨by decide, by decide⟩, ⟨_, rfl⟩, by decide⟩

/-- The one byte of STC at the CS limit. -/
theorem witness_EncodedInstructionRuns :
    let u := passBoundary (lastByte [0xF9#8])
    let bs := encode (codeSize u) .stc
    Instr.stc.wf = true ∧ quiet (lastByte [0xF9#8]) ∧ codeAt u bs ∧ codeInside u bs.length ∧
      (u.mode ≠ .realAddress → u.pageFault ((codeLoc u).lin u 0) bs.length .fetch = none) := by
  refine ⟨by decide, ⟨by decide, by decide⟩, by unfold codeAt; decide, by unfold codeInside; decide, by decide⟩

/-- The three ways a pending external interrupt is not taken, or nothing is pending. -/
theorem witness_InterruptRecognition :
    quiet prot ∧ quiet { prot with inputs := [⟨false, true, none⟩] } ∧
    quiet { prot with inputs := [⟨false, true, none⟩], flags := { prot.flags with ifl := true }, intShadow := true } := by
  refine ⟨⟨by decide, by decide⟩, ⟨by decide, by decide⟩, ⟨by decide, by decide⟩⟩

theorem witness_StiWindow :
    ∃ t u, prot.flags.ifl = false ∧ exec .sti prot = .next t ∧ exec .stc t = .next u ∧ u.flags.ifl = true :=
  ⟨_, _, rfl, rfl, rfl, rfl⟩

theorem witness_ShadowOnlyFromSti : (∃ t, exec .sti prot = .next t) ∧ ∃ t, exec .sahf prot = .next t :=
  ⟨⟨_, rfl⟩, ⟨_, rfl⟩⟩

/-- SHL AX,1 with its second byte, at the wrapped offset 0, beyond the CS limit. -/
def splitCode : State := load (lastByte [0xD1#8]) 0 [0xE0#8]

/-- STC with a page fault on its byte. -/
def faultingCode : State := code { prot with pageFaults := [⟨0x1000#32, 1, .fetch, 0#2, 4, 0x1000#32⟩] } [0xF9#8]

theorem witness_FetchFaults :
    (let u := passBoundary splitCode
      let bs := encode (codeSize u) (.shlRm16One (.reg 0#3))
      quiet splitCode ∧ u.cs.expandDown = false ∧ codeAt u bs ∧ u.cs.byteLimit < u.eip.toNat + bs.length - 1) ∧
    (let u := passBoundary faultingCode
      let bs := encode (codeSize u) .stc
      quiet faultingCode ∧ u.cs.expandDown = false ∧ codeAt u bs ∧ u.eip.toNat + bs.length - 1 ≤ u.cs.byteLimit ∧
        u.mode ≠ .realAddress ∧ (u.pageFault ((codeLoc u).lin u 0) bs.length .fetch).isSome = true) := by
  refine ⟨⟨⟨by decide, by decide⟩, by decide, ?_, by decide⟩, ⟨⟨by decide, by decide⟩, by decide, ?_, by decide, by decide,
    by decide⟩⟩
  · unfold codeAt
    decide
  · unfold codeAt
    decide

theorem witness_TooLongInstruction :
    let u := passBoundary (code prot (List.replicate 15 0x66#8))
    quiet (code prot (List.replicate 15 0x66#8)) ∧ codeInside u 15 ∧
      ∀ k, k < 15 → u.byteAt ((codeLoc u).lin u k) ∈ prefixBytes := by
  refine ⟨⟨by decide, by decide⟩, by unfold codeInside; decide, by decide⟩

/-- One access for each clause: null, nonwritable, outside SS, outside DS in real-address mode, misaligned, page fault. -/
theorem witness_ChecksInOrder :
    ({ prot with ds := flatSeg 3#16 0b0011#4 }.nullCheck .ds = true) ∧
    ({ prot with ds := flatSeg 4#16 0b0001#4 }.nullCheck .ds = false ∧
      { prot with ds := flatSeg 4#16 0b0001#4 }.writeCheck .ds .write = true) ∧
    (prot.nullCheck .ss = false ∧ prot.writeCheck .ss .write = false ∧
      outsideLimit prot.mode prot.ss 0xFFFFFFFD 4 = true) ∧
    (State.reset.nullCheck .ds = false ∧ State.reset.writeCheck .ds .write = false ∧
      outsideLimit State.reset.mode State.reset.ds 0xFFFF 2 = true) ∧
    (outsideLimit prot.mode prot.ds 0xFFFFFFFB 4 = false ∧ prot.mode ≠ .realAddress ∧
      { aligned prot with cpl := 3#2 }.alignmentCheckApplies 0xFFFFFFFB#32 4 = true) ∧
    (prot.alignmentCheckApplies 0x1000#32 4 = false ∧
      ({ prot with pageFaults := [⟨0x1000#32, 4, .read, 0#2, 1, 0x1001#32⟩] }.pageFault 0x1000#32 4 .read).isSome = true) := by
  decide

theorem witness_AccessFaults :
    let s := { prot with ds := flatSeg 0#16 0b0011#4 }
    dataAccess s (.sgdt .s32 (.mem ebx0)) = some ⟨memLoc ebx0 s, 6, .write⟩ ∧ s.cfg.procGen ≠ .i8086 ∧
    dataAccess s (.sldtRm32 (.mem ebx0)) = some ⟨memLoc ebx0 s, 2, .write⟩ ∧ s.mode = .protectedMode ∧
    s.cfg.procGen.has32 = true ∧ checkAccess s (memLoc ebx0 s) 6 .write = some (.gp (some 0)) ∧
    checkAccess s (memLoc ebx0 s) 2 .write = some (.gp (some 0)) := by
  refine ⟨rfl, by decide, rfl, by decide, by decide, by decide, by decide⟩

/-- Each exception: #GP of the instruction's own and of a memory check in real-address mode, #SS, #PF, #AC, #UD. -/
theorem witness_OnlyListedExceptions :
    exec .sti { prot with cpl := 3#2 } = .fault (.exception (.gp (some 0))) ∧
    exec (.subR16Rm16 0#3 (.mem bx0)) (State.reset.setReg32 3#3 0xFFFF#32) = .fault (.exception (.gp none)) ∧
    exec (.subR16Rm16 0#3 (.mem { bx0 with override := some .ss })) (State.reset.setReg32 3#3 0xFFFF#32) =
      .fault (.exception (.ss none)) ∧
    exec (.seta (.mem ebx0)) { prot with pageFaults := [⟨0#32, 1, .write, 0#2, 6, 0#32⟩] } =
      .fault (.exception (.pf 6 0#32)) ∧
    exec (.smswRm16 (.mem ebx0)) ((({ aligned prot with cpl := 3#2 } : State)).setReg32 3#3 1#32) =
      .fault (.exception (.ac 0)) ∧
    exec .sysenter (on .pentiumPro prot) = .fault (.exception .ud) := by
  refine ⟨rfl, rfl, rfl, ?_, ?_, rfl⟩
  · rfl
  · rfl

theorem witness_MemoryReadAfterWrite : 0 < Width.w8.bytes ∧ 1 < Width.w16.bytes ∧ 3 < Width.w32.bytes := by decide

theorem witness_RegisterViews : (3#3).toNat < 4 ∧ (3#3 : RegNum) = 3#3 ∧ (7#3 : RegNum) = 3#3 + 4#3 := by decide

/-- Each clause: a 16-bit and a 32-bit form, an override, SS and DS defaults. -/
theorem witness_EffectiveAddresses :
    (∃ a, bx0.ea = .a16 a) ∧ (∃ a, ebx0.ea = .a32 a) ∧ ({ ebx0 with override := some .gs } : MemRef).override = some .gs ∧
    stackBased (.a16 (.base .bpDi .none)) ∧ stackBased (.a32 (.base 5#3 (.d8 0#8))) ∧
    stackBased (.a32 (.sib 0#2 none 4#3 .none)) ∧ ¬ stackBased bx0.ea ∧ ¬ stackBased ebx0.ea ∧
    ¬ stackBased (.a32 (.sibNoBase 0#2 (some 5#3) 0#32)) := by
  refine ⟨⟨_, rfl⟩, ⟨_, rfl⟩, rfl, ?_⟩
  simp [stackBased, bx0, ebx0]

/-- A count below the width, at the width and past it. -/
theorem witness_ShiftFunctionsAreLoops :
    (1 ≤ 1 ∧ 1 ≤ Width.w8.bits) ∧ (1 ≤ 8 ∧ Width.w8.bits ≤ 8 ∧ 8 ≤ Width.w8.bits) ∧
      (1 ≤ 9 ∧ Width.w8.bits < 9 ∧ Width.w8.bits - 1 ≤ 9) := by
  decide

/-- A memory destination at the end of its segment, by 1 and by 31; the 8-bit width's carry open and defined. -/
theorem witness_ShiftCompletes :
    shiftRow (.sarRm32Imm8 (.mem ebx0) 31#8) = some ⟨.sar, .w32, .mem ebx0, .imm 31#8⟩ ∧ Available edge .w32 ∧
    RmAccessible edge (.mem ebx0) 4 .readwrite ∧ shiftCount edge (.imm 31#8) ≠ 0 ∧ shiftCount edge .one = 1 ∧
    carryDefined .sar 32 31 ∧ carryDefined .shl 8 7 := by
  refine ⟨rfl, fun _ => rfl, edge_accessible _, by decide, by decide, .inl rfl, .inr (by decide)⟩

theorem witness_ShiftByZeroChangesNothing :
    shiftRow (.shlRm16Imm8 (.mem bx0) 0xE0#8) = some ⟨.shl, .w16, .mem bx0, .imm 0xE0#8⟩ ∧ Available realEdge .w16 ∧
    RmAccessible realEdge (.mem bx0) 2 .readwrite ∧ shiftCount realEdge (.imm 0xE0#8) = 0 ∧
    realEdge.cfg.procGen ≠ .i8086 ∧ (Count.imm 0xE0#8).raw realEdge ∈ [0, 32, 64, 96, 128, 160, 192, 224] := by
  refine ⟨rfl, by simp [Available], realEdge_accessible _, by decide, by decide, by decide⟩

/-- The counts 1 and w-1. -/
theorem witness_DoubleShiftCompletes :
    dshiftRow (.shrdRm16R16Imm8 (.mem bx0) 2#3 15#8) = some ⟨.shrd, .w16, .mem bx0, 2#3, .imm 15#8⟩ ∧
    Available realEdge .w16 ∧ RmAccessible realEdge (.mem bx0) 2 .readwrite ∧
    1 ≤ (Count.imm 15#8).raw realEdge % 32 ∧ (Count.imm 15#8).raw realEdge % 32 < Width.w16.bits ∧
    (Count.imm 0x21#8).raw realEdge % 32 = 1 := by
  refine ⟨rfl, by simp [Available], realEdge_accessible _, by decide, by decide, by decide⟩

theorem witness_DoubleShiftByZeroChangesNothing :
    dshiftRow (.shldRm32R32Imm8 (.mem ebx0) 2#3 0x20#8) = some ⟨.shld, .w32, .mem ebx0, 2#3, .imm 0x20#8⟩ ∧
    Available edge .w32 ∧ RmAccessible edge (.mem ebx0) 4 .readwrite ∧ (Count.imm 0x20#8).raw edge % 32 = 0 := by
  refine ⟨rfl, fun _ => rfl, edge_accessible _, by decide⟩

/-- The counts 16 and 31. -/
theorem witness_DoubleShiftPastWidth :
    dshiftRow (.shldRm16R16Imm8 (.mem bx0) 2#3 16#8) = some ⟨.shld, .w16, .mem bx0, 2#3, .imm 16#8⟩ ∧
    Available realEdge .w16 ∧ RmAccessible realEdge (.mem bx0) 2 .readwrite ∧
    Width.w16.bits ≤ (Count.imm 16#8).raw realEdge % 32 ∧ Width.w16.bits ≤ (Count.imm 31#8).raw realEdge % 32 := by
  refine ⟨rfl, by simp [Available], realEdge_accessible _, by decide, by decide⟩

/-- A memory destination, a memory source, an immediate. -/
theorem witness_SubtractCompletes :
    (subRow (.sbbRm32R32 (.mem ebx0) 2#3) = some ⟨true, .w32, .mem ebx0, .rm (.reg 2#3)⟩ ∧ Available edge .w32 ∧
      RmAccessible edge (.mem ebx0) 4 .readwrite ∧ (Src.rm (.reg 2#3) : Src .w32).accessible edge) ∧
    (subRow (.subR16Rm16 3#3 (.mem bx0)) = some ⟨false, .w16, .reg 3#3, .rm (.mem bx0)⟩ ∧ Available realEdge .w16 ∧
      RmAccessible realEdge (.reg 3#3) 2 .readwrite ∧ (Src.rm (.mem bx0) : Src .w16).accessible realEdge) ∧
    (subRow (.subAlImm8 5#8) = some ⟨false, .w8, .reg 0#3, .imm 5#8⟩ ∧ (Src.imm 5#8 : Src .w8).accessible prot) := by
  refine ⟨⟨rfl, fun _ => rfl, edge_accessible _, trivial⟩,
    ⟨rfl, by simp [Available], trivial, realEdge_accessible .read⟩, ⟨rfl, trivial⟩⟩

theorem witness_ScasCompletes :
    scasRow (.scasb .s16) = some (.w8, .s16) ∧ scasRow (.scasM8 .s32) = some (.w8, .s32) ∧ Available stringEdge .w8 ∧
    Accessible stringEdge (stringOperand stringEdge .s16) 1 .read ∧
    Accessible stringEdge (stringOperand stringEdge .s32) 1 .read := by
  refine ⟨rfl, rfl, by simp [Available], accessible_of (by decide), accessible_of (by decide)⟩

theorem witness_StosCompletes :
    stosRow (.stosb .s16) = some (.w8, .s16) ∧ stosRow (.stosM8 .s32) = some (.w8, .s32) ∧ Available stringEdge .w8 ∧
    Accessible stringEdge (stringOperand stringEdge .s16) 1 .write ∧
    Accessible stringEdge (stringOperand stringEdge .s32) 1 .write := by
  refine ⟨rfl, rfl, by simp [Available], accessible_of (by decide), accessible_of (by decide)⟩

/-- A condition that holds and one that does not. -/
theorem witness_SetccCompletes :
    setccRow (.setnle (.mem bx0)) = some (15, .mem bx0) ∧ RmAccessible (State.reset.setReg32 3#3 0xFFFF#32) (.mem bx0) 1 .write ∧
    condition 15 State.reset.flags ∧ ¬ condition 4 State.reset.flags := by
  refine ⟨rfl, accessible_of (by decide), ⟨rfl, rfl⟩, by simp [condition, State.reset, Eflags.reset]⟩

/-- The six bytes that end at the limit; the i8086. -/
theorem witness_TableStoreCompletes :
    (realEdge.cfg.procGen ≠ .i8086 ∧
      Accessible (State.reset.setReg32 3#3 0xFFFA#32) (memLoc bx0 (State.reset.setReg32 3#3 0xFFFA#32)) 6 .write) ∧
    (on .i8086 realEdge).cfg.procGen = .i8086 := by
  refine ⟨⟨by decide, accessible_of (by decide)⟩, rfl⟩

/-- Protected mode, a register and a word of memory, on the two kinds of processor and the oldest. -/
theorem witness_SldtCompletes :
    prot.mode = .protectedMode ∧ RmAccessible prot (.reg 3#3) 2 .write ∧ RmAccessible prot (.mem ebx0) 2 .write ∧
    prot.cfg.procGen.has32 = true ∧ (prot.cfg.procGen = .pentiumPro ∨ prot.cfg.procGen = .pentiumII) ∧
    ((on .i286 prot).cfg.procGen = .i8086 ∨ (on .i286 prot).cfg.procGen = .i286) ∧
    (on .i286 prot).mode = .protectedMode := by
  refine ⟨by decide, trivial, accessible_of (by decide), by decide, by decide, by decide, by decide⟩

theorem witness_SmswCompletes : RmAccessible realEdge (.mem bx0) 2 .write ∧ RmAccessible realEdge (.reg 0#3) 2 .write :=
  ⟨realEdge_accessible _, trivial⟩

theorem witness_StrCompletes :
    prot.mode = .protectedMode ∧ RmAccessible prot (.mem ebx0) 2 .write ∧ RmAccessible prot (.reg 3#3) 2 .write := by
  refine ⟨by decide, accessible_of (by decide), trivial⟩

/-- Both sides of the table, CPL equal to IOPL and one above it. -/
theorem witness_StiDecisionTable :
    stiMay State.reset ∧ stiMay { prot with cpl := 2#2, flags := { prot.flags with iopl := 2#2 } } ∧
    stiMay { prot with cpl := 3#2, flags := { prot.flags with vm := true, iopl := 3#2 } } ∧
    ¬ stiMay { prot with cpl := 3#2, flags := { prot.flags with iopl := 2#2 } } ∧
    ¬ stiMay { prot with cpl := 3#2, flags := { prot.flags with vm := true, iopl := 2#2 } } := by
  unfold stiMay
  decide

/-- The smallest nonzero SYSENTER_CS_MSR; protected and virtual-8086 mode. -/
theorem witness_SysenterCompletes :
    (facility (enterState 1#16).cfg ∧ (enterState 1#16).pe = true ∧ (enterState 1#16).sysenterCs ≠ 0#16) ∧
    (∃ t, exec .sysenter (enterState 1#16) = .next t) ∧ ∃ t, exec .sysexit { enterState 1#16 with cpl := 0#2 } = .next t := by
  refine ⟨?_, ⟨_, rfl⟩, ⟨_, rfl⟩⟩
  unfold facility
  decide

theorem witness_SysexitCompletes :
    let s := { enterState 0xFFFF#16 with cpl := 0#2 }
    facility s.cfg ∧ s.mode = .protectedMode ∧ s.cpl = 0#2 ∧ s.sysenterCs ≠ 0#16 := by
  unfold facility
  decide

/-- No facility; with it, each reason alone, and an MSR of 1 and of 3. -/
theorem witness_FastCallChecks :
    ¬ facility (on .pentiumPro prot).cfg ∧ facility prot.cfg ∧ State.reset.pe = false ∧ prot.sysenterCs = 0#16 ∧
    State.reset.mode ≠ .protectedMode ∧ (enterState 1#16).cpl ≠ 0#2 ∧
    (facility (enterState 1#16).cfg ∧ (enterState 1#16).sysenterCs ∈ [1#16, 2#16, 3#16] ∧ (enterState 1#16).pe = true) ∧
    let s := { enterState 3#16 with cpl := 0#2 }
    facility s.cfg ∧ s.sysenterCs ∈ [1#16, 2#16, 3#16] ∧ s.mode = .protectedMode ∧ s.cpl = 0#2 := by
  unfold facility
  decide

theorem witness_UndefinedOpcodes :
    State.reset.cfg.procGen ≠ .i8086 ∧ State.reset.mode ≠ .protectedMode ∧ State.reset.cfg.procGen.has32 = true ∧
    { prot with flags := { prot.flags with vm := true } }.mode ≠ .protectedMode := by
  decide

theorem witness_SystemStateNeverWritten : ∃ t, exec (.stosd .s32) prot = .next t := ⟨_, rfl⟩

/-- An instruction that is neither of the pair, and both of the pair; SYSENTER lowers CPL. -/
theorem witness_RingChanges :
    (∃ t, exec (.setl (.reg 0#3)) prot = .next t) ∧
    (∃ t, exec .sysenter (enterState 8#16) = .next t ∧ t.cpl.toNat < (enterState 8#16).cpl.toNat) ∧
    ∃ t, exec .sysexit { enterState 8#16 with cpl := 0#2 } = .next t :=
  ⟨⟨_, rfl⟩, ⟨_, rfl, by decide⟩, ⟨_, rfl⟩⟩

theorem witness_FlagDiscipline : ∃ t, exec .std prot = .next t := ⟨_, rfl⟩

/-- SUB, SBB with CF clear, SCAS. -/
theorem witness_RelationsAfterSubtraction :
    (∃ t, exec (.subAlImm8 3#8) prot = .next t) ∧ (subRow (.subAlImm8 3#8)).isSome = true ∧
    (∃ t, exec (.sbbEaxImm32 3#32) prot = .next t) ∧ prot.flags.cf = false ∧
    (∃ t, exec (.scasd .s16) prot = .next t) ∧ scasRow (.scasd .s16) = some (.w32, .s16) := by
  refine ⟨⟨_, rfl⟩, rfl, ⟨_, rfl⟩, rfl, ⟨_, rfl⟩, rfl⟩

/-- EDX:EAX minus ECX:EBX. -/
theorem witness_MultiwordSubtraction : prot.cfg.procGen.has32 = true ∧ (2#3 : RegNum) ≠ 0#3 ∧ (1#3 : RegNum) ≠ 0#3 := by
  decide

/-- The counts 1 and 31 and CL; SHLD then SAL, SHRD then SHR, SHRD then SAR. -/
theorem witness_MultiwordShift :
    let s := prot.setReg32 1#3 33#32
    s.cfg.procGen.has32 = true ∧ (2#3 : RegNum) ≠ 0#3 ∧ (2#3 : RegNum) ≠ 1#3 ∧ (0#3 : RegNum) ≠ 1#3 ∧
    Count.cl.raw s % 32 = 1 ∧ (Count.imm 31#8).raw s % 32 = 31 ∧
    dshiftRow (.shldRm32R32Cl (.reg 2#3) 0#3) = some ⟨.shld, .w32, .reg 2#3, 0#3, .cl⟩ ∧
    shiftRow (.salRm32Cl (.reg 0#3)) = some ⟨.shl, .w32, .reg 0#3, .cl⟩ ∧
    dshiftRow (.shrdRm32R32Imm8 (.reg 0#3) 2#3 31#8) = some ⟨.shrd, .w32, .reg 0#3, 2#3, .imm 31#8⟩ ∧
    shiftRow (.shrRm32Imm8 (.reg 2#3) 31#8) = some ⟨.shr, .w32, .reg 2#3, .imm 31#8⟩ ∧
    shiftRow (.sarRm32Imm8 (.reg 2#3) 31#8) = some ⟨.sar, .w32, .reg 2#3, .imm 31#8⟩ := by
  refine ⟨by decide, by decide, by decide, by decide, by decide, by decide, rfl, rfl, rfl, rfl, rfl⟩

theorem witness_SubIsSbbWithoutBorrow :
    subRow (.subRm16Imm8 (.mem bx0) 0xFF#8) = some ⟨false, .w16, .mem bx0, .imm 0xFFFF#16⟩ ∧
    subRow (.sbbRm16Imm8 (.mem bx0) 0xFF#8) = some ⟨true, .w16, .mem bx0, .imm 0xFFFF#16⟩ ∧ State.reset.flags.cf = false :=
  ⟨rfl, rfl, rfl⟩

theorem witness_SameRegisterSubtraction :
    subRow (.sbbR8Rm8 7#3 (.reg 7#3)) = some ⟨true, .w8, .reg 7#3, .rm (.reg 7#3)⟩ ∧
    subRow (.subRm32R32 (.reg 3#3) 3#3) = some ⟨false, .w32, .reg 3#3, .rm (.reg 3#3)⟩ ∧ Available prot .w32 ∧
    Available prot .w8 := by
  refine ⟨rfl, rfl, fun _ => rfl, fun _ => rfl⟩

/-- The counts 1 and w-1. -/
theorem witness_SameRegisterRotates :
    dshiftRow (.shldRm16R16Imm8 (.reg 1#3) 1#3 1#8) = some ⟨.shld, .w16, .reg 1#3, 1#3, .imm 1#8⟩ ∧ Available prot .w16 ∧
    1 ≤ (Count.imm 1#8).raw prot % 32 ∧ (Count.imm 1#8).raw prot % 32 < Width.w16.bits ∧
    dshiftRow (.shrdRm32R32Imm8 (.reg 1#3) 1#3 31#8) = some ⟨.shrd, .w32, .reg 1#3, 1#3, .imm 31#8⟩ ∧
    (Count.imm 31#8).raw prot % 32 < Width.w32.bits := by
  refine ⟨rfl, fun _ => rfl, by decide, by decide, rfl, by decide⟩

theorem witness_RealModeIgnoresPaging : State.reset.mode = .realAddress := by decide

/-- Every condition of the invariant with its premise true: virtual-8086 mode and a shadowed instruction. -/
theorem witness_StepKeepsInvariant :
    let s := { code State.reset [0xF9#8] with
      cr0 := 1#32, cpl := 3#2, intShadow := true, flags := { prot.flags with vm := true, ifl := true } }
    s.inv ∧ ∃ t, step s = .next t := by
  refine ⟨⟨by decide, by decide, by decide, fun _ => ?_, by decide, by decide⟩, ⟨_, rfl⟩⟩
  refine ⟨?_, ?_, ?_, ?_, ?_, ?_⟩ <;> exact ⟨by decide, by decide⟩

theorem witness_LaunchHasInvariant : (∃ t, reaches 1 (code State.reset [0xF9#8]) t) ∧ nullSelector prot.ss.sel = false := by
  refine ⟨⟨_, _, rfl, rfl⟩, by decide⟩

/-- A step; a read of a byte nothing has written, after which the next read is another draw; a shift by 0, by more than
the width, and SUB of registers, which reads no memory. -/
theorem witness_FreshDrawPerUse :
    (∃ t, step (code prot [0xF9#8]) = .next t ∧ t.draws = 1) ∧
    (∃ t, exec (.scasb .s32) prot = .next t ∧ prot.byteAt 0x9000#32 = Config.unpopulatedByte 0 0x9000 ∧
      t.byteAt 0x9000#32 = Config.unpopulatedByte 1 0x9000) ∧
    (∃ t, exec (.shlRm32Imm8 (.mem ebx0) 0#8) prot = .next t ∧ t.draws = 0) ∧
    (∃ t, exec (.shldRm16R16Imm8 (.reg 0#3) 1#3 16#8) prot = .next t ∧ t.draws = 7) ∧
    (∃ t, exec (.sarRm32One (.mem ebx0)) prot = .next t ∧ t.draws = 3) ∧
    ∃ t, exec (.subRm32R32 (.reg 0#3) 1#3) prot = .next t ∧ t.draws = 0 := by
  refine ⟨⟨_, rfl, rfl⟩, ⟨_, rfl, rfl, rfl⟩, ⟨_, rfl, rfl⟩, ⟨_, rfl, rfl⟩, ⟨_, rfl, rfl⟩, ⟨_, rfl, rfl⟩⟩

/-- A shift by the width, the longest and the shortest open double shift, and the two high halves. -/
theorem witness_UndefinedResultsAreDraws :
    (∃ t, exec (.shlRm8Imm8 (.reg 0#3) 8#8) prot = .next t) ∧
    (∃ t, exec (.shrdRm16R16Imm8 (.reg 0#3) 1#3 15#8) prot = .next t) ∧
    (∃ t, exec (.shldRm16R16Imm8 (.reg 0#3) 1#3 16#8) prot = .next t) ∧
    ((∃ t, exec (.sldtRm32 (.reg 5#3)) (on .pentium prot) = .next t) ∧ (on .pentium prot).cfg.procGen ∈ sldtOpen) ∧
    ∃ t, exec (.smswR32M16 (.reg 5#3)) prot = .next t :=
  ⟨⟨_, rfl⟩, ⟨_, rfl⟩, ⟨_, rfl⟩, ⟨⟨_, rfl⟩, by decide⟩, ⟨_, rfl⟩⟩

end Sys2Proof.Tests
end

section
/-! PROOFS. The family 00_scope.md: what one step runs and how many draws it takes (R18, R19). -/

namespace Sys2Proof.Machine

open Ref

/-! ## The step as exec of the instruction fetched -/

theorem recognized_of_quiet {s : State} (h : quiet s) : recognized (nextInput s) s = none := by
  obtain ⟨hnmi, hext⟩ := h
  cases he : (nextInput s).ext with
  | false => simp [recognized, hnmi, he]
  | true => rcases hext he with h | h <;> simp [recognized, hnmi, h]

/-- The converse of `fetch_next`. -/
theorem fetch_of_decode {s : State} {i : Instr} {rest : List Byte}
    (hd : decode (codeSize s) (fetchWindow s) = .ok (i, rest))
    (hp : s.mode ≠ .realAddress →
      s.pageFault ((codeLoc s).lin s 0) ((fetchWindow s).length - rest.length) .fetch = none) :
    fetch s = .next (i, (fetchWindow s).length - rest.length) := by
  unfold fetch
  rw [hd]
  dsimp only
  split
  · rfl
  · rename_i hm
    rw [hp hm]

theorem step_of_fetch {s : State} {i : Instr} {len : Nat} (hr : recognized (nextInput s) s = none)
    (hf : fetch (passBoundary s) = .next (i, len)) : step s = exec i (afterFetch (passBoundary s) len) := by
  rw [step, hr]
  dsimp only
  rw [fetchExecute, hf]

/-! ## What the fetch leaves -/

theorem wrapOffset_s16_toNat (off : Word32) : (wrapOffset .s16 off).toNat = off.toNat % 2 ^ 16 := by
  simp [wrapOffset, BitVec.toNat_and, Nat.and_two_pow_sub_one_eq_mod _ 16]

@[simp] theorem afterFetch_draws (s : State) (len : Nat) : (afterFetch s len).draws = s.draws + 1 := rfl

/-- EIP past the instruction, modulo 2^32 or 2^16 by CS.D (92_eei_decisions.md D31). -/
theorem afterFetch_eip_toNat (s : State) (len : Nat) :
    (afterFetch s len).eip.toNat = (s.eip.toNat + len) % (if s.cs.d then 2 ^ 32 else 2 ^ 16) := by
  change (wrapOffset (eipWrap s) (s.eip + BitVec.ofNat 32 len)).toNat = _
  cases hd : s.cs.d with
  | false => simp [eipWrap, hd, wrapOffset_s16_toNat, BitVec.toNat_add]
  | true => simp [eipWrap, hd, wrapOffset, BitVec.toNat_add]

@[simp] theorem passBoundary_draws (s : State) : (passBoundary s).draws = s.draws := by
  obtain ⟨p, is, h⟩ := passBoundary_eq s
  rw [h]
  rfl

/-- Settles O7: a quiet boundary takes no event, and the fetch answers what the bytes decode to. -/
theorem stepRunsDecoded : Obligations.StepRunsDecoded := by
  intro s i rest hq u len hd hp
  exact ⟨step_of_fetch (recognized_of_quiet hq) (fetch_of_decode hd hp), ⟨_, rfl⟩, afterFetch_eip_toNat u len⟩

/-! ## The draws each family takes -/

theorem drawsTaken_shiftRow {i : Instr} {r : ShiftRow} (h : shiftRow i = some r) (s : State) :
    drawsTaken s i = if shiftCount s r.count = 0 then 0 else 3 := by
  simp only [drawsTaken, h]

theorem shiftRow_none_of_dshiftRow {i : Instr} {r : DoubleShiftRow} (h : dshiftRow i = some r) : shiftRow i = none := by
  cases i <;> first | (cases h; done) | rfl

theorem drawsTaken_dshiftRow {i : Instr} {r : DoubleShiftRow} (h : dshiftRow i = some r) (s : State) :
    drawsTaken s i = if r.count.raw s % 32 = 0 then 0 else if r.count.raw s % 32 < r.w.bits then 2 else 7 := by
  simp only [drawsTaken, shiftRow_none_of_dshiftRow h, h]

theorem rmAccess_draws (s : State) (rm : RM) (n : Nat) (k : AccessKind) :
    (if (rmAccess s rm n k).isSome then 1 else 0) = rmDraws rm := by
  cases rm <;> rfl

/-- SBB and SUB take the draws of their two operands, of which at most one is memory. -/
theorem drawsTaken_subRow {i : Instr} {r : SubRow} (h : subRow i = some r) (s : State) :
    drawsTaken s i = rmDraws r.dst + r.src.draws := by
  cases i <;> first
    | (cases h; done)
    | (cases h; rfl)
    | (cases h; exact rmAccess_draws ..)
    | (cases h; exact (rmAccess_draws ..).trans (Nat.zero_add _).symm)

theorem drawsTaken_scasRow {i : Instr} {w : Width} {asz : Size} (h : scasRow i = some (w, asz)) (s : State) :
    drawsTaken s i = 1 := by
  cases i <;> first | (cases h; done) | rfl

theorem drawsTaken_stosRow {i : Instr} {w : Width} {asz : Size} (h : stosRow i = some (w, asz)) (s : State) :
    drawsTaken s i = 0 := by
  cases i <;> first | (cases h; done) | rfl

theorem drawsTaken_setccRow {i : Instr} {cc : Nat} {dst : RM} (h : setccRow i = some (cc, dst)) (s : State) :
    drawsTaken s i = 0 := by
  cases i <;> first | (cases h; done) | rfl

theorem drawsTaken_sldtRm32_reg (s : State) (n : RegNum) :
    drawsTaken s (.sldtRm32 (.reg n)) = if s.cfg.procGen ∈ sldtOpen then 1 else 0 := rfl

/-- The processors on which R328 leaves the high half of SLDT open, as the meaning tests them. -/
theorem sldtHighUndefined_iff (g : ProcGen) : sldtHighUndefined g = true ↔ g ∈ sldtOpen := by
  cases g <;> decide

/-! ## The count of draws after each shared operation -/

@[simp] theorem writeRm_draws (s : State) (w : Width) (rm : RM) (v : BitVec w.bits) :
    (writeRm s w rm v).draws = s.draws := by
  obtain ⟨_, hd, _⟩ := writeRm_fields s w rm v
  exact hd

@[simp] theorem stepDi_draws (s : State) (asz : Size) (w : Width) : (stepDi s asz w).draws = s.draws := by
  obtain ⟨g, hg, _⟩ := stepDi_eq s asz w
  rw [hg]
  rfl

theorem storeTable_draws {r : TableReg} {osz : Size} {dst : RM} {s t : State} (h : storeTable r osz dst s = .next t) :
    t.draws = s.draws := by
  obtain ⟨m, _, _, _, rfl⟩ := storeTable_next h
  rfl

theorem storeWord_draws {dst : RM} {v : Word16} {s t : State} (h : storeWord dst v s = .next t) :
    t.draws = s.draws := by
  simp [storeWord_next h]

/-- A register has a high half, for which the draws are spent. -/
theorem storeWordHigh_reg_next {n : RegNum} {high v : Word16} {d : Nat} {s t : State}
    (h : storeWordHigh (.reg n) high v d s = .next t) : t.draws = s.draws + d ∧ t.reg32 n = high ++ v := by
  obtain rfl := (complete_next _ _).mp h
  simp

/-- Memory takes a word alone, so nothing is drawn. -/
theorem storeWordHigh_mem_draws {m : MemRef} {high v : Word16} {d : Nat} {s t : State}
    (h : storeWordHigh (.mem m) high v d s = .next t) : t.draws = s.draws :=
  storeWord_draws (dst := .mem m) (v := v) h

/-- SLDT to 32 bits stores LDTR under a drawn or a zero half, by the processor (47_sldt_smsw.md R328). -/
theorem execSldtRm32_next {dst : RM} {s t : State} (h : execSldtRm32 dst s = .next t) :
    (s.cfg.procGen ∈ sldtOpen ∧ storeWordHigh dst (s.draw 16 0) s.ldtr 1 s = .next t) ∨
      (s.cfg.procGen ∉ sldtOpen ∧ storeWordHigh dst 0#16 s.ldtr 0 s = .next t) := by
  have h := (protectedOnly_next (need32_next h).2).2
  split at h
  · rename_i hu
    exact .inl ⟨(sldtHighUndefined_iff _).mp hu, h⟩
  · rename_i hu
    exact .inr ⟨fun hm => hu ((sldtHighUndefined_iff _).mpr hm), h⟩

/-! ## The count of draws after each instruction -/

theorem exec_shiftRow_draws {i : Instr} {r : ShiftRow} {s t : State} (hr : shiftRow i = some r)
    (h : exec i s = .next t) : t.draws = s.draws + drawsTaken s i := by
  rw [exec_shiftRow hr] at h
  rw [drawsTaken_shiftRow hr, ← maskCount_countByte]
  rcases shiftInstr_next h with ⟨hc, rfl⟩ | ⟨hc, rfl⟩
  · simp [hc]
  · simp [hc, shiftState]

theorem exec_dshiftRow_draws {i : Instr} {r : DoubleShiftRow} {s t : State} (hr : dshiftRow i = some r)
    (h : exec i s = .next t) : t.draws = s.draws + drawsTaken s i := by
  rw [exec_dshiftRow hr] at h
  rw [drawsTaken_dshiftRow hr, ← maskCount5_countByte]
  rcases dshiftInstr_next h with ⟨hc, rfl⟩ | ⟨hc, hw, rfl⟩ | ⟨hc, hw, rfl⟩
  · simp [hc]
  · simp [hc, hw.not_gt, dshiftUndefinedState]
  · simp [hc, hw, dshiftState]

theorem exec_subRow_draws {i : Instr} {r : SubRow} {s t : State} (hr : subRow i = some r)
    (h : exec i s = .next t) : t.draws = s.draws + drawsTaken s i := by
  rw [exec_subRow hr] at h
  have h := (complete_next _ _).mp (withSrcAccess_next (withRmAccess_next (need32_next h).2).2)
  simp [h, drawsTaken_subRow hr]

theorem exec_sldtRm32_draws {dst : RM} {s t : State} (h : execSldtRm32 dst s = .next t) :
    t.draws = s.draws + drawsTaken s (.sldtRm32 dst) := by
  cases dst with
  | reg n =>
    rw [drawsTaken_sldtRm32_reg]
    rcases execSldtRm32_next h with ⟨ho, h⟩ | ⟨ho, h⟩
    · rw [if_pos ho, (storeWordHigh_reg_next h).1]
    · rw [if_neg ho, (storeWordHigh_reg_next h).1]
  | mem m =>
    rcases execSldtRm32_next h with ⟨_, h⟩ | ⟨_, h⟩
    · exact storeWordHigh_mem_draws h
    · exact storeWordHigh_mem_draws h

theorem exec_smswR32M16_draws {dst : RM} {s t : State} (h : execSmswR32M16 dst s = .next t) :
    t.draws = s.draws + drawsTaken s (.smswR32M16 dst) := by
  cases dst with
  | reg n => exact (storeWordHigh_reg_next h).1
  | mem m => exact storeWordHigh_mem_draws h

/-- STR stores a zero high half, which is no draw (48_stc_std_sti_stos_str.md R376). -/
theorem exec_strRm16_draws {osz : Size} {dst : RM} {s t : State} (h : execStrRm16 osz dst s = .next t) :
    t.draws = s.draws := by
  have h := (protectedOnly_next h).2
  cases osz with
  | s16 => exact storeWord_draws h
  | s32 =>
    cases dst with
    | reg n => exact (storeWordHigh_reg_next h).1
    | mem m => exact storeWordHigh_mem_draws h

/-- An instruction that completes takes exactly `drawsTaken`. -/
theorem exec_draws {i : Instr} {s t : State} (h : exec i s = .next t) : t.draws = s.draws + drawsTaken s i := by
  have hc := instr_families i
  simp only [Option.isSome_iff_exists] at hc
  rcases hc with ⟨r, hr⟩ | ⟨r, hr⟩ | ⟨r, hr⟩ | ⟨⟨w, asz⟩, hr⟩ | ⟨⟨w, asz⟩, hr⟩ | ⟨⟨cc, dst⟩, hr⟩ | hc
  · exact exec_shiftRow_draws hr h
  · exact exec_dshiftRow_draws hr h
  · exact exec_subRow_draws hr h
  · rw [exec_scasRow hr] at h
    simp [scas_next h, drawsTaken_scasRow hr]
  · rw [exec_stosRow hr] at h
    simp [stos_next h, drawsTaken_stosRow hr, State.writeLoc]
  · rw [exec_setccRow hr] at h
    simp [setcc_next h, drawsTaken_setccRow hr]
  · rcases hc with rfl | rfl | rfl | rfl | rfl | rfl | ⟨osz, dst, rfl⟩ | ⟨osz, dst, rfl⟩ | ⟨dst, rfl⟩ | ⟨dst, rfl⟩ |
      ⟨dst, rfl⟩ | ⟨dst, rfl⟩ | ⟨osz, dst, rfl⟩
    · obtain rfl := (complete_next _ _).mp h
      rfl
    · obtain rfl := (complete_next _ _).mp h
      rfl
    · obtain rfl := (complete_next _ _).mp h
      rfl
    · obtain ⟨_, rfl⟩ := execSti_next h
      rfl
    · obtain ⟨_, _, _, rfl⟩ := execSysenter_next h
      rfl
    · obtain ⟨_, _, _, _, _, rfl⟩ := execSysexit_next h
      rfl
    · exact storeTable_draws (r := s.gdtr) h
    · exact storeTable_draws (r := s.idtr) h
    · exact storeWord_draws (protectedOnly_next h).2
    · exact exec_sldtRm32_draws h
    · exact storeWord_draws (dst := dst) (v := s.cr0.extractLsb' 0 16) h
    · exact exec_smswR32M16_draws h
    · exact exec_strRm16_draws h

/-- Settles O59, by the draws of each family (`exec_draws`) after the one draw of the fetch. -/
theorem freshDrawPerUse : Obligations.FreshDrawPerUse := by
  refine ⟨fun s t h => ?_, fun i s t h => exec_draws h, fun s a => rfl⟩
  obtain ⟨i, len, hf, he⟩ := fetchExecute_next (step_next h).2
  exact ⟨i, len, hf, h.trans he.symm, by simp [exec_draws he]⟩

/-! ## Which draw each undefined value is -/

theorem exec_shiftRow_undefined {i : Instr} {r : ShiftRow} {s t : State} (hr : shiftRow i = some r)
    (h : exec i s = .next t) (hc : shiftCount s r.count ≠ 0) :
    t.flags.af = s.drawBit 0 ∧ (shiftCount s r.count ≠ 1 → t.flags.ofl = s.drawBit 1) ∧
      (r.op ≠ .sar → r.w.bits ≤ shiftCount s r.count → t.flags.cf = s.drawBit 2) := by
  rw [exec_shiftRow hr] at h
  rcases shiftInstr_next h with ⟨h0, _⟩ | ⟨_, rfl⟩
  · exact absurd (maskCount_countByte s r.count ▸ h0) hc
  · rw [maskCount_countByte]
    exact ⟨rfl, fun h1 => if_neg h1, fun hop hw => if_pos (by simp [shiftCarryUndefined, hop, hw])⟩

theorem exec_dshiftRow_undefined_flags {i : Instr} {r : DoubleShiftRow} {s t : State} (hr : dshiftRow i = some r)
    (h : exec i s = .next t) (h0 : 0 < r.count.raw s % 32) (hw : r.count.raw s % 32 < r.w.bits) :
    t.flags.af = s.drawBit 0 ∧ (r.count.raw s % 32 ≠ 1 → t.flags.ofl = s.drawBit 1) := by
  rw [exec_dshiftRow hr] at h
  rw [← maskCount5_countByte] at h0 hw ⊢
  rcases dshiftInstr_next h with ⟨hc, _⟩ | ⟨_, hc, _⟩ | ⟨_, _, rfl⟩
  · exact absurd hc h0.ne'
  · exact absurd hw hc.not_gt
  · exact ⟨rfl, fun h1 => if_neg h1⟩

/-- Past the width nothing of a double shift is defined (46_shld_shrd.md R301). -/
theorem exec_dshiftRow_undefined_all {i : Instr} {r : DoubleShiftRow} {s t : State} (hr : dshiftRow i = some r)
    (h : exec i s = .next t) (hw : r.w.bits ≤ r.count.raw s % 32) :
    t = (dshiftUndefinedState r.w r.dst s).withIntShadow false := by
  rw [exec_dshiftRow hr] at h
  rw [← maskCount5_countByte] at hw
  have hpos : 0 < r.w.bits := by cases r.w <;> decide
  rcases dshiftInstr_next h with ⟨hc, _⟩ | ⟨_, _, ht⟩ | ⟨_, hc, _⟩
  · omega
  · exact ht
  · omega

/-- Settles O60, by what each family writes where it completes. -/
theorem undefinedResultsAreDraws : Obligations.UndefinedResultsAreDraws := by
  intro i s t h
  refine ⟨fun r hr hc => ?shift, fun r hr h0 hw => ?dshift, fun r hr hw => ?pastWidth, ?sldt, ?smsw,
    fun _ _ => rfl, fun _ => rfl⟩
  case shift =>
    refine ⟨?_, exec_shiftRow_undefined hr h hc⟩
    rw [exec_draws h, drawsTaken_shiftRow hr, if_neg hc]
  case dshift =>
    refine ⟨?_, exec_dshiftRow_undefined_flags hr h h0 hw⟩
    rw [exec_draws h, drawsTaken_dshiftRow hr, if_neg h0.ne', if_pos hw]
  case pastWidth =>
    obtain rfl := exec_dshiftRow_undefined_all hr h hw
    exact ⟨by simp [dshiftUndefinedState], (writeRm_holds s r.w r.dst _ _ _).2, rfl, rfl, rfl, rfl, rfl, rfl⟩
  case sldt =>
    rintro n rfl hg
    rcases execSldtRm32_next h with ⟨_, h⟩ | ⟨hn, _⟩
    · exact storeWordHigh_reg_next h
    · exact absurd hg hn
  case smsw =>
    rintro n rfl
    exact storeWordHigh_reg_next h

end Sys2Proof.Machine
end

section
/-! PROOFS. The family 10_state.md: what an instruction that completes can change of the state, and the register file as
views of eight registers (R21 to R23, R33, R37, R45 to R51, R55). -/

namespace Sys2Proof.Machine

open Ref

/-! ## The parts of a general register (R22, R23) -/

theorem readReg_w16_toNat (s : State) (n : RegNum) : (s.readReg .w16 n).toNat = (s.reg32 n).toNat % 65536 := by
  simp [State.readReg, Width.bits]

theorem byteHome_of_lt_four : ∀ n : RegNum, n.toNat < 4 → n.getLsbD 2 = false ∧ byteHome n = n := by decide

theorem byteHome_add_four : ∀ n : RegNum, n.toNat < 4 → (n + 4#3).getLsbD 2 = true ∧ byteHome (n + 4#3) = n := by decide

/-- AL, CL, DL and BL. -/
theorem readReg_w8_low_toNat (s : State) {n : RegNum} (h : n.toNat < 4) :
    (s.readReg .w8 n).toNat = (s.reg32 n).toNat % 256 := by
  obtain ⟨hbit, hhome⟩ := byteHome_of_lt_four n h
  simp only [State.readReg, hbit, hhome]
  simp [Width.bits]

/-- AH, CH, DH and BH. -/
theorem readReg_w8_high_toNat (s : State) {n : RegNum} (h : n.toNat < 4) :
    (s.readReg .w8 (n + 4#3)).toNat = (s.reg32 n).toNat / 256 % 256 := by
  obtain ⟨hbit, hhome⟩ := byteHome_add_four n h
  simp only [State.readReg, hbit, hhome, if_true]
  simp [Nat.shiftRight_eq_div_pow, Width.bits]

/-- Settles O19, by what each width of a register write leaves and what each width of a read takes. -/
theorem registerViews : Obligations.RegisterViews := by
  intro s w n v
  refine ⟨readReg_writeReg s w n v, writeReg_regsKeptOutside s w n v, readReg_w16_toNat s n, ?low, ?high⟩
  case low =>
    rintro k hk rfl
    exact readReg_w8_low_toNat s hk
  case high =>
    rintro k hk rfl
    exact readReg_w8_high_toNat s hk

/-! ## What the four kinds of completion leave -/

/-- A next state is that of STI, SYSENTER or SYSEXIT, or an ordinary one. -/
theorem exec_next_cases {i : Instr} {s t : State} (h : exec i s = .next t) :
    (i = .sti ∧ t = (s.withFlags { s.flags with ifl := true }).withIntShadow (!s.flags.ifl)) ∨
      (i = .sysenter ∧ t = (sysenterState s).withIntShadow false) ∨
      (i = .sysexit ∧ t = (sysexitState s).withIntShadow false) ∨
      ((i ≠ .sti ∧ i ≠ .sysenter ∧ i ≠ .sysexit) ∧
        ∃ f, ordinary s t f ∧ (i ≠ .std → controlFlagsKept s.flags f) ∧ (i = .std → f = { s.flags with df := true })) := by
  by_cases hsti : i = .sti
  · subst hsti
    exact .inl ⟨rfl, (execSti_next h).2⟩
  by_cases henter : i = .sysenter
  · subst henter
    obtain ⟨_, _, _, ht⟩ := execSysenter_next h
    exact .inr (.inl ⟨rfl, ht⟩)
  by_cases hexit : i = .sysexit
  · subst hexit
    obtain ⟨_, _, _, _, _, ht⟩ := execSysexit_next h
    exact .inr (.inr (.inl ⟨rfl, ht⟩))
  exact .inr (.inr (.inr ⟨⟨hsti, henter, hexit⟩, exec_ordinary h hsti henter hexit⟩))

theorem ordinary_intShadow {s t : State} {f : Eflags} (h : ordinary s t f) : t.intShadow = false := by
  obtain ⟨g, m, d, rfl, _⟩ := h
  rfl

theorem ordinary_flags {s t : State} {f : Eflags} (h : ordinary s t f) : t.flags = f := by
  obtain ⟨g, m, d, rfl, _⟩ := h
  rfl

theorem ordinary_systemKept {s t : State} {f : Eflags} (h : ordinary s t f) : systemKept s t := by
  obtain ⟨g, m, d, rfl, _⟩ := h
  simp [systemKept]

theorem sysenterState_systemKept (s : State) : systemKept s (sysenterState s) := by
  simp [systemKept, sysenterState]

theorem sysexitState_systemKept (s : State) : systemKept s (sysexitState s) := by
  simp [systemKept, sysexitState]

/-- Settles O11: STI alone writes IntShadow otherwise than to 0, and to the negation of IF. -/
theorem shadowOnlyFromSti : Obligations.ShadowOnlyFromSti := by
  intro i s t h
  rcases exec_next_cases h with ⟨rfl, rfl⟩ | ⟨rfl, rfl⟩ | ⟨rfl, rfl⟩ | ⟨⟨hsti, _, _⟩, f, ho, _⟩
  · simp
  · simp
  · simp
  · simp [ordinary_intShadow ho, hsti]

/-- Settles O46, by the fields that each kind of completion writes. -/
theorem systemStateNeverWritten : Obligations.SystemStateNeverWritten := by
  intro i s t h
  rcases exec_next_cases h with ⟨_, rfl⟩ | ⟨_, rfl⟩ | ⟨_, rfl⟩ | ⟨_, f, ho, _⟩
  · simp [systemKept]
  · exact sysenterState_systemKept s
  · exact sysexitState_systemKept s
  · exact ordinary_systemKept ho

/-! ## Flags -/

/-- Bits 1, 3 and 5 of EFLAGS are constants (R37). -/
theorem Eflags.toWord_reserved (f : Eflags) :
    f.toWord.getLsbD 1 = true ∧ f.toWord.getLsbD 3 = false ∧ f.toWord.getLsbD 5 = false :=
  ⟨f.toWord_getLsbD 1, f.toWord_getLsbD 3, f.toWord_getLsbD 5⟩

@[simp] theorem sysenterState_flags (s : State) :
    (sysenterState s).flags = { s.flags with vm := false, ifl := false } := rfl

@[simp] theorem sysexitState_flags (s : State) : (sysexitState s).flags = s.flags := rfl

/-- Settles O48: STI, SYSENTER and STD write the control flags named, and every other instruction keeps them all. -/
theorem flagDiscipline : Obligations.FlagDiscipline := by
  refine ⟨Eflags.toWord_reserved, fun i s t h => ?_⟩
  rcases exec_next_cases h with ⟨rfl, rfl⟩ | ⟨rfl, rfl⟩ | ⟨rfl, rfl⟩ | ⟨⟨hsti, henter, _⟩, f, ho, hkept, hstd⟩
  · simp
  · simp
  · simp [show (Instr.sysexit == .sti) = false from rfl, show (Instr.sysexit != .sysenter) = true from rfl]
  · have hsti : (i == .sti) = false := beq_false_of_ne hsti
    have henter : (i != .sysenter) = true := bne_iff_ne.mpr henter
    rw [ordinary_flags ho]
    by_cases hi : i = .std
    · simp [hstd hi, hsti, henter, beq_iff_eq.mpr hi]
    · obtain ⟨htf, hifl, hdf, hiopl, hnt, hrf, hvm, hac, hvif, hvip, hidf⟩ := hkept hi
      simp [htf, hifl, hdf, hiopl, hnt, hrf, hvm, hac, hvif, hvip, hidf, hi, hsti, henter]

end Sys2Proof.Machine
end

section
/-! PROOFS. The family 20_memory.md: the checks on an access and their order (R68 to R74), memory as little-endian bytes
(R65, R66), and what every instruction does with the checks of its access (R76, R77). -/

namespace Sys2Proof.Machine

open Ref

/-! ## Each check as the condition its rule writes (R69 to R74) -/

theorem nullSelector_iff (sel : Word16) : nullSelector sel = true ↔ sel.toNat < 4 := by
  rw [nullSelector, beq_iff_eq, ← BitVec.toNat_inj, BitVec.extractLsb'_toNat]
  simp only [Nat.shiftRight_eq_div_pow, BitVec.toNat_ofNat]
  have := sel.isLt
  omega

theorem nullCheck_iff (s : State) (seg : SegName) :
    s.nullCheck seg = true ↔
      s.mode = .protectedMode ∧ seg ≠ .ss ∧ seg ≠ .cs ∧ (s.seg seg).sel.toNat < 4 := by
  simp only [State.nullCheck, Bool.and_eq_true, beq_iff_eq, bne_iff_ne, nullSelector_iff, and_assoc]

theorem writeCheck_iff (s : State) (seg : SegName) (k : AccessKind) :
    s.writeCheck seg k = true ↔
      s.mode = .protectedMode ∧ k ≠ .read ∧
        ((s.seg seg).typ.getLsbD 3 = true ∨ (s.seg seg).typ.getLsbD 1 = false) := by
  simp only [State.writeCheck, SegReg.nonWritable, Bool.and_eq_true, Bool.or_eq_true, beq_iff_eq, bne_iff_ne,
    Bool.not_eq_true', and_assoc]

theorem outsideLimit_eq_false_iff (m : Mode) (r : SegReg) (off n : Nat) :
    outsideLimit m r off n = false ↔
      if m = .protectedMode ∧ r.expandDown = true then Config.expandDownOutside r.byteLimit off n = false
      else off + n ≤ r.byteLimit + 1 := by
  unfold outsideLimit
  split
  · rfl
  · rw [decide_eq_false_iff_not]
    omega

theorem alignmentCheckApplies_iff (s : State) (lin : Word32) (n : Nat) :
    s.alignmentCheckApplies lin n = true ↔
      s.cr0.getLsbD 18 = true ∧ s.flags.ac = true ∧ s.cpl = 3#2 ∧ unaligned lin.toNat n = true := by
  simp only [State.alignmentCheckApplies, State.alignmentCheckingEnabled, Bool.and_eq_true, beq_iff_eq, and_assoc]

/-- The sizes that alignment looks at are 2, 4 and the 6 of SGDT and SIDT, a word and then a doubleword. -/
theorem unaligned_eq_false_iff (a n : Nat) :
    unaligned a n = false ↔ (n = 2 → 2 ∣ a) ∧ (n = 4 → 4 ∣ a) ∧ (n = 6 → a % 4 = 2) := by
  unfold unaligned
  split
  · simpa using (Nat.dvd_iff_mod_eq_zero (m := 2)).symm
  · simpa using (Nat.dvd_iff_mod_eq_zero (m := 4)).symm
  · have hparts : a % 2 = 0 ∧ (a + 2) % 4 = 0 ↔ a % 4 = 2 := by omega
    simpa using hparts
  · rename_i h2 h4 h6
    exact iff_of_true rfl ⟨fun h => (h2 h).elim, fun h => (h4 h).elim, fun h => (h6 h).elim⟩

theorem pageFault_eq_none_iff (s : State) (lin : Word32) (n : Nat) (k : AccessKind) :
    s.pageFault lin n k = none ↔
      ∀ e ∈ s.pageFaults, ¬ (e.lin = lin ∧ e.n = n ∧ e.kind = k ∧ e.cpl = s.cpl) := by
  simp only [State.pageFault, List.find?_eq_none, Bool.and_eq_true, beq_iff_eq, and_assoc]

/-! ## The check of an access, case by case (R68, D6) -/

section
variable {s : State} {l : Loc} {n : Nat} {k : AccessKind}

theorem checkAccess_of_null (hnull : s.nullCheck l.seg = true) : checkAccess s l n k = some (.gp (some 0)) :=
  if_pos hnull

theorem checkAccess_of_nonWritable (hnull : ¬ s.nullCheck l.seg = true) (hwrite : s.writeCheck l.seg k = true) :
    checkAccess s l n k = some (.gp (some 0)) := by
  rw [checkAccess, if_neg hnull, if_pos hwrite]

theorem checkAccess_of_outside (hnull : ¬ s.nullCheck l.seg = true) (hwrite : ¬ s.writeCheck l.seg k = true)
    (hlimit : outsideLimit s.mode (s.seg l.seg) l.off.toNat n = true) :
    checkAccess s l n k = some (if l.seg = .ss then .ss (limitCode s.mode) else .gp (limitCode s.mode)) := by
  rw [checkAccess, if_neg hnull, if_neg hwrite, if_pos hlimit]

/-- What is left once the segment's own three checks have passed. -/
theorem checkAccess_of_inside (hnull : ¬ s.nullCheck l.seg = true) (hwrite : ¬ s.writeCheck l.seg k = true)
    (hlimit : ¬ outsideLimit s.mode (s.seg l.seg) l.off.toNat n = true) :
    checkAccess s l n k =
      if s.mode = .realAddress then none
      else if s.alignmentCheckApplies (l.lin s 0) n then some (.ac 0)
      else (s.pageFault (l.lin s 0) n k).map fun e => .pf e.code e.faultLin := by
  rw [checkAccess, if_neg hnull, if_neg hwrite, if_neg hlimit]

theorem checkAccess_eq_none_iff :
    checkAccess s l n k = none ↔
      ¬ s.nullCheck l.seg = true ∧ ¬ s.writeCheck l.seg k = true ∧
        ¬ outsideLimit s.mode (s.seg l.seg) l.off.toNat n = true ∧
        (s.mode ≠ .realAddress →
          ¬ s.alignmentCheckApplies (l.lin s 0) n = true ∧ s.pageFault (l.lin s 0) n k = none) := by
  by_cases hnull : s.nullCheck l.seg = true
  · simp [checkAccess_of_null hnull, hnull]
  by_cases hwrite : s.writeCheck l.seg k = true
  · simp [checkAccess_of_nonWritable hnull hwrite, hwrite]
  by_cases hlimit : outsideLimit s.mode (s.seg l.seg) l.off.toNat n = true
  · simp [checkAccess_of_outside hnull hwrite hlimit, hlimit]
  rw [checkAccess_of_inside hnull hwrite hlimit]
  by_cases hreal : s.mode = .realAddress
  · rw [if_pos hreal]
    exact iff_of_true rfl ⟨hnull, hwrite, hlimit, fun h => absurd hreal h⟩
  by_cases halign : s.alignmentCheckApplies (l.lin s 0) n = true
  · simp [hreal, halign]
  · simp [hnull, hwrite, hlimit, hreal, halign]

end

/-- Settles O14, condition by condition. -/
theorem checksPassWhenAccessible : Obligations.ChecksPassWhenAccessible := by
  intro s l n k
  rw [checkAccess_eq_none_iff, nullCheck_iff, writeCheck_iff, Bool.not_eq_true, outsideLimit_eq_false_iff,
    alignmentCheckApplies_iff, pageFault_eq_none_iff, Accessible, imp_and]
  refine and_congr ?null (and_congr ?write (and_congr_right' (and_congr_left' ?align)))
  case null => simp
  case write => simp
  case align =>
    rw [← unaligned_eq_false_iff]
    simp

/-- Settles O15, each clause by the case of the check that its conditions select. -/
theorem checksInOrder : Obligations.ChecksInOrder := by
  intro s l n k r code isNull noWrite beyond misaligned
  have hnull : s.nullCheck l.seg = true ↔ isNull := nullCheck_iff s l.seg
  have hwrite : s.writeCheck l.seg k = true ↔ noWrite := writeCheck_iff s l.seg k
  have halign : s.mode ≠ .realAddress ∧ s.alignmentCheckApplies (l.lin s 0) n = true ↔ misaligned :=
    and_congr_right' (alignmentCheckApplies_iff ..)
  rw [← hnull, ← hwrite, ← halign]
  refine ⟨checkAccess_of_null, checkAccess_of_nonWritable, fun hn hw hb hss => ?limitSs, fun hn hw hb hss => ?limit,
    fun hn hw hb ha => ?alignment, fun hn hw hb ha hm e he => ?pageFault⟩
  case limitSs => exact (checkAccess_of_outside hn hw hb).trans (by rw [if_pos hss]; rfl)
  case limit => exact (checkAccess_of_outside hn hw hb).trans (by rw [if_neg hss]; rfl)
  case alignment => rw [checkAccess_of_inside hn hw hb, if_neg ha.1, if_pos ha.2]
  case pageFault =>
    rw [checkAccess_of_inside hn hw hb, if_neg hm, if_neg (fun h => ha ⟨hm, h⟩), he]
    rfl

/-! ## Memory as bytes, the lowest first (R65, R66; D4, D5) -/

/-- Byte `k` of a value is its bits `8k+7` to `8k`. -/
theorem valueBytes_getElem (w : Width) (v : BitVec w.bits) (k : Nat) (hk : k < (valueBytes w v).length) :
    (valueBytes w v)[k] = v.extractLsb' (8 * k) 8 := by
  have hw : k < w.bytes := valueBytes_length w v ▸ hk
  cases w with
  | w8 =>
    obtain rfl : k = 0 := Nat.lt_one_iff.mp hw
    exact BitVec.extractLsb'_eq_self.symm
  | w16 => interval_cases k <;> rfl
  | w32 => interval_cases k <;> rfl

theorem readLoc_w32_eq_append_w16 (s : State) (l : Loc) :
    s.readLoc .w32 l = (s.byteAt (l.lin s 3) ++ s.byteAt (l.lin s 2)) ++ s.readLoc .w16 l := by
  simp only [State.readLoc]
  exact BitVec.append_assoc

/-- The low part of a joined value. -/
theorem append_toNat_mod {v w : Nat} (x : BitVec v) (y : BitVec w) : (x ++ y).toNat % 2 ^ w = y.toNat := by
  rw [BitVec.toNat_append, Nat.shiftLeft_eq, Nat.or_mod_two_pow]
  simp [Nat.mod_eq_of_lt y.isLt]

theorem readLoc_w16_toNat (s : State) (l : Loc) : (s.readLoc .w16 l).toNat = (s.readLoc .w32 l).toNat % 65536 := by
  rw [readLoc_w32_eq_append_w16]
  exact (append_toNat_mod _ _).symm

theorem readLoc_w8_toNat (s : State) (l : Loc) : (s.readLoc .w8 l).toNat = (s.readLoc .w32 l).toNat % 256 :=
  (append_toNat_mod _ _).symm

/-- Settles O18, by the bytes that a write leaves held (`heldAt_writeLoc`) and a read joins. -/
theorem memoryReadAfterWrite : Obligations.MemoryReadAfterWrite := by
  intro s w l v
  refine ⟨readsAs_of_writeLoc (fun x => State.storeBytes_seg ..) rfl, fun k hk => ?bytes,
    heldAt_writeLoc_outside s w l v, readLoc_w16_toNat s l, readLoc_w8_toNat s l⟩
  case bytes =>
    have hk : k < (valueBytes w v).length := (valueBytes_length w v).symm ▸ hk
    rw [heldAt_writeLoc s w l v k hk, Option.map_some, valueBytes_getElem, BitVec.extractLsb'_toNat,
      Nat.shiftRight_eq_div_pow]

/-! ## A failing check is the outcome (R76, R77) -/

/-- ES:(E)DI is the one location of the string forms (R89). -/
theorem stringLoc_eq_stringOperand (s : State) (asz : Size) : stringLoc s asz = stringOperand s asz := by
  cases asz with
  | s16 =>
    have hoff : wrapOffset .s16 (s.reg32 7#3) = BitVec.ofNat 32 ((s.reg32 7#3).toNat % 65536) :=
      BitVec.eq_of_toNat_eq (by rw [wrapOffset_s16_toNat, BitVec.toNat_ofNat]; omega)
    rw [stringLoc, stringOperand, hoff]
  | s32 => rfl

section
variable {s : State} {a : Access} {e : Exception}

theorem rmAccess_bytes {rm : RM} {n : Nat} {k : AccessKind} (ha : rmAccess s rm n k = some a) : a.n = n := by
  cases rm with
  | reg r => cases ha
  | mem m =>
    cases ha
    rfl

theorem withRmAccess_raise {rm : RM} {n : Nat} {k : AccessKind} {go : Result} (ha : rmAccess s rm n k = some a)
    (he : checkAccess s a.loc a.n a.kind = some e) : withRmAccess s rm n k go = raise e := by
  cases rm with
  | reg r => cases ha
  | mem m =>
    cases ha
    exact withAccess_raise he

theorem storeTable_raise {r : TableReg} {osz : Size} {dst : RM} (ha : rmAccess s dst 6 .write = some a)
    (hg : s.cfg.procGen ≠ .i8086) (he : checkAccess s a.loc a.n a.kind = some e) :
    storeTable r osz dst s = raise e := by
  cases dst with
  | reg r => cases ha
  | mem m =>
    cases ha
    rw [storeTable, if_neg hg]
    exact withAccess_raise he

theorem storeWordHigh_raise {dst : RM} {high v : Word16} {d : Nat} (ha : rmAccess s dst 2 .write = some a)
    (he : checkAccess s a.loc a.n a.kind = some e) : storeWordHigh dst high v d s = raise e := by
  cases dst with
  | reg r => cases ha
  | mem m => exact withRmAccess_raise ha he

theorem protectedOnly_pass {go : Result} (h : s.mode = .protectedMode) : protectedOnly s go = go := if_pos h

theorem execSldtRm32_raise {dst : RM} (ha : rmAccess s dst 2 .write = some a)
    (h32 : s.cfg.procGen.has32 = true) (hmode : s.mode = .protectedMode)
    (he : checkAccess s a.loc a.n a.kind = some e) : execSldtRm32 dst s = raise e := by
  rw [execSldtRm32, need32_pass fun _ => h32, protectedOnly_pass hmode]
  split
  · exact storeWordHigh_raise ha he
  · exact storeWordHigh_raise ha he

theorem execStrRm16_raise {osz : Size} {dst : RM} (ha : rmAccess s dst 2 .write = some a)
    (hmode : s.mode = .protectedMode) (he : checkAccess s a.loc a.n a.kind = some e) :
    execStrRm16 osz dst s = raise e := by
  cases osz with
  | s16 => exact (protectedOnly_pass hmode).trans (withRmAccess_raise ha he)
  | s32 => exact (protectedOnly_pass hmode).trans (storeWordHigh_raise ha he)

end

/-! ### The access and the width of each family's rows -/

section
variable {i : Instr}

theorem dataAccess_shiftRow {r : ShiftRow} (h : shiftRow i = some r) (s : State) :
    dataAccess s i = rmAccess s r.dst r.w.bytes .readwrite := by
  cases i <;> first | (cases h; done) | (cases h; rfl)

theorem operand32_shiftRow {r : ShiftRow} (h : shiftRow i = some r) : operand32 i = decide (r.w = .w32) := by
  cases i <;> first | (cases h; done) | (cases h; rfl)

theorem dataAccess_dshiftRow {r : DoubleShiftRow} (h : dshiftRow i = some r) (s : State) :
    dataAccess s i = rmAccess s r.dst r.w.bytes .readwrite := by
  cases i <;> first | (cases h; done) | (cases h; rfl)

theorem operand32_dshiftRow {r : DoubleShiftRow} (h : dshiftRow i = some r) :
    operand32 i = decide (r.w = .w32) := by
  cases i <;> first | (cases h; done) | (cases h; rfl)

/-- The access of a source operand. -/
def srcAccess {w : Width} (s : State) : Src w → Option Access
  | .imm _ => none
  | .rm r => rmAccess s r w.bytes .read

/-- Of the two operands of SBB and SUB at most one is memory: the destination's access, or else the source's. -/
theorem dataAccess_subRow {r : SubRow} (h : subRow i = some r) (s : State) :
    dataAccess s i = rmAccess s r.dst r.w.bytes .readwrite ∧ srcAccess s r.src = none ∨
      dataAccess s i = srcAccess s r.src ∧ ∃ n, r.dst = .reg n := by
  cases i <;> first
    | (cases h; done)
    | (cases h; exact .inl ⟨rfl, rfl⟩)
    | (cases h; exact .inr ⟨rfl, _, rfl⟩)

theorem operand32_subRow {r : SubRow} (h : subRow i = some r) : operand32 i = decide (r.w = .w32) := by
  cases i <;> first | (cases h; done) | (cases h; rfl)

theorem dataAccess_scasRow {w : Width} {asz : Size} (h : scasRow i = some (w, asz)) (s : State) :
    dataAccess s i = some ⟨stringOperand s asz, w.bytes, .read⟩ := by
  cases i <;> first | (cases h; done) | (cases h; rfl)

theorem operand32_scasRow {w : Width} {asz : Size} (h : scasRow i = some (w, asz)) :
    operand32 i = decide (w = .w32) := by
  cases i <;> first | (cases h; done) | (cases h; rfl)

theorem dataAccess_stosRow {w : Width} {asz : Size} (h : stosRow i = some (w, asz)) (s : State) :
    dataAccess s i = some ⟨stringOperand s asz, w.bytes, .write⟩ := by
  cases i <;> first | (cases h; done) | (cases h; rfl)

theorem operand32_stosRow {w : Width} {asz : Size} (h : stosRow i = some (w, asz)) :
    operand32 i = decide (w = .w32) := by
  cases i <;> first | (cases h; done) | (cases h; rfl)

theorem dataAccess_setccRow {cc : Nat} {dst : RM} (h : setccRow i = some (cc, dst)) (s : State) :
    dataAccess s i = rmAccess s dst 1 .write := by
  cases i <;> first | (cases h; done) | (cases h; rfl)

end

theorem withSrcAccess_raise {w : Width} {s : State} {src : Src w} {a : Access} {e : Exception} {go : Result}
    (ha : srcAccess s src = some a) (he : checkAccess s a.loc a.n a.kind = some e) :
    withSrcAccess s src go = raise e := by
  cases src with
  | imm v => cases ha
  | rm r => exact withRmAccess_raise ha he

/-- Settles O16, by the access of each family's rows: nothing but the widths and the modes that the hypotheses allow is
looked at before the check. -/
theorem accessFaults : Obligations.AccessFaults := by
  intro i s a e ha h32 h6 hmode he
  have available : ∀ {w : Width}, operand32 i = decide (w = .w32) → w = .w32 → s.cfg.procGen.has32 = true :=
    fun hop hw => h32 (hop.trans (decide_eq_true hw))
  change exec i s = raise e
  have hc := instr_families i
  simp only [Option.isSome_iff_exists] at hc
  rcases hc with ⟨r, hr⟩ | ⟨r, hr⟩ | ⟨r, hr⟩ | ⟨⟨w, asz⟩, hr⟩ | ⟨⟨w, asz⟩, hr⟩ | ⟨⟨cc, dst⟩, hr⟩ | hc
  · rw [dataAccess_shiftRow hr] at ha
    rw [exec_shiftRow hr, shiftInstr, need32_pass (available (operand32_shiftRow hr))]
    exact withRmAccess_raise ha he
  · rw [dataAccess_dshiftRow hr] at ha
    rw [exec_dshiftRow hr, dshiftInstr, need32_pass (available (operand32_dshiftRow hr))]
    exact withRmAccess_raise ha he
  · rw [exec_subRow hr, need32_pass (available (operand32_subRow hr))]
    rcases dataAccess_subRow hr s with ⟨hd, _⟩ | ⟨hd, n, hreg⟩
    · exact withRmAccess_raise (hd ▸ ha) he
    · rw [hreg]
      exact withSrcAccess_raise (hd ▸ ha) he
  · rw [dataAccess_scasRow hr, ← stringLoc_eq_stringOperand] at ha
    cases ha
    rw [exec_scasRow hr, scas, need32_pass (available (operand32_scasRow hr))]
    exact withAccess_raise he
  · rw [dataAccess_stosRow hr, ← stringLoc_eq_stringOperand] at ha
    cases ha
    rw [exec_stosRow hr, stos, need32_pass (available (operand32_stosRow hr))]
    exact withAccess_raise he
  · rw [dataAccess_setccRow hr] at ha
    rw [exec_setccRow hr, setcc]
    exact withRmAccess_raise ha he
  · rcases hc with rfl | rfl | rfl | rfl | rfl | rfl | ⟨osz, dst, rfl⟩ | ⟨osz, dst, rfl⟩ | ⟨dst, rfl⟩ | ⟨dst, rfl⟩ |
      ⟨dst, rfl⟩ | ⟨dst, rfl⟩ | ⟨osz, dst, rfl⟩
    -- SAHF, STC, STD, STI, SYSENTER and SYSEXIT make no data access.
    iterate 6 cases ha
    · exact storeTable_raise ha (h6 (rmAccess_bytes ha)) he
    · exact storeTable_raise ha (h6 (rmAccess_bytes ha)) he
    · exact (protectedOnly_pass (hmode dst .s16 (.inl rfl))).trans (withRmAccess_raise ha he)
    · exact execSldtRm32_raise ha (h32 rfl) (hmode dst .s16 (.inr (.inl rfl))) he
    · exact withRmAccess_raise ha he
    · exact storeWordHigh_raise ha he
    · exact execStrRm16_raise ha (hmode dst osz (.inr (.inr rfl))) he

/-! ## The page-fault answers in real-address mode (R74) -/

/-- An outcome with other page-fault answers in its next state. -/
def withPaging (p : List PageFaultEntry) : Result → Result
  | .next t => .next (t.withPageFaults p)
  | .fault f => .fault f
  | .refused r => .refused r

/-! ### What reads and writes make of other page-fault answers -/

section
variable (s : State) (p : List PageFaultEntry)

@[simp] theorem State.withPageFaults_draw (w j : Nat) : (s.withPageFaults p).draw w j = s.draw w j := rfl

@[simp] theorem State.withPageFaults_readLoc (w : Width) (l : Loc) :
    (s.withPageFaults p).readLoc w l = s.readLoc w l :=
  readLoc_congr w l (State.withPageFaults_seg s p) rfl rfl

/-- An effective address reads general registers alone (30_encoding.md R101, R102). -/
@[simp] theorem memLoc_withPageFaults (m : MemRef) : memLoc m (s.withPageFaults p) = memLoc m s := rfl

@[simp] theorem stringLoc_withPageFaults (asz : Size) : stringLoc (s.withPageFaults p) asz = stringLoc s asz := rfl

@[simp] theorem countByte_withPageFaults (c : Count) : countByte (s.withPageFaults p) c = countByte s c := by
  cases c <;> rfl

@[simp] theorem borrowIn_withPageFaults (carry : Bool) : borrowIn carry (s.withPageFaults p) = borrowIn carry s := rfl

@[simp] theorem readRm_withPageFaults (w : Width) (rm : RM) : readRm (s.withPageFaults p) w rm = readRm s w rm := by
  cases rm with
  | reg n => rfl
  | mem m => simp only [readRm, memLoc_withPageFaults, State.withPageFaults_readLoc]

@[simp] theorem srcValue_withPageFaults {w : Width} (src : Src w) : src.value (s.withPageFaults p) = src.value s := by
  cases src with
  | imm v => rfl
  | rm r => exact readRm_withPageFaults s p w r

@[simp] theorem Loc.cells_withPageFaults (l : Loc) (k : Nat) (bs : List Byte) :
    l.cells (s.withPageFaults p) k bs = l.cells s k bs := by
  induction bs generalizing k with
  | nil => rfl
  | cons b bs ih => simp only [Loc.cells, State.withPageFaults_lin, ih]

@[simp] theorem State.withPageFaults_storeBytes (l : Loc) (bs : List Byte) :
    (s.withPageFaults p).storeBytes l bs = (s.storeBytes l bs).withPageFaults p := by
  rw [State.storeBytes, Loc.cells_withPageFaults]
  rfl

@[simp] theorem State.withPageFaults_writeReg (w : Width) (n : RegNum) (v : BitVec w.bits) :
    (s.withPageFaults p).writeReg w n v = (s.writeReg w n v).withPageFaults p := by
  cases w <;> rfl

@[simp] theorem writeRm_withPageFaults (w : Width) (rm : RM) (v : BitVec w.bits) :
    writeRm (s.withPageFaults p) w rm v = (writeRm s w rm v).withPageFaults p := by
  cases rm with
  | reg n => exact State.withPageFaults_writeReg s p w n v
  | mem m => exact State.withPageFaults_storeBytes s p (memLoc m s) (valueBytes w v)

@[simp] theorem stepDi_withPageFaults (asz : Size) (w : Width) :
    stepDi (s.withPageFaults p) asz w = (stepDi s asz w).withPageFaults p := by
  cases asz <;> rfl

theorem shiftState_withPageFaults (w : Width) (op : ShiftOp) (dst : RM) (c : Nat) :
    shiftState w op dst c (s.withPageFaults p) = (shiftState w op dst c s).withPageFaults p := by
  simp only [shiftState, readRm_withPageFaults, writeRm_withPageFaults]
  rfl

theorem dshiftState_withPageFaults (w : Width) (op : DoubleShiftOp) (dst : RM) (src : BitVec w.bits) (c : Nat) :
    dshiftState w op dst src c (s.withPageFaults p) = (dshiftState w op dst src c s).withPageFaults p := by
  simp only [dshiftState, readRm_withPageFaults, writeRm_withPageFaults]
  rfl

theorem dshiftUndefinedState_withPageFaults (w : Width) (dst : RM) :
    dshiftUndefinedState w dst (s.withPageFaults p) = (dshiftUndefinedState w dst s).withPageFaults p := by
  simp only [dshiftUndefinedState, State.withPageFaults_draw, writeRm_withPageFaults]
  rfl

end

/-! ### The outcome of each shared operation -/

section
variable {s : State} {p : List PageFaultEntry} {go go' : Result}

theorem complete_withPageFaults {t t' : State} (h : t' = t.withPageFaults p) :
    complete t' = withPaging p (complete t) := by
  rw [h]
  rfl

theorem need32_withPageFaults (w : Width) (h : go' = withPaging p go) :
    need32 (s.withPageFaults p) w go' = withPaging p (need32 s w go) := by
  rw [h]
  unfold need32
  rw [State.withPageFaults_cfg]
  split <;> rfl

theorem protectedOnly_withPageFaults (h : go' = withPaging p go) :
    protectedOnly (s.withPageFaults p) go' = withPaging p (protectedOnly s go) := by
  rw [h]
  unfold protectedOnly
  rw [State.withPageFaults_mode]
  split <;> rfl

theorem withAccess_withPageFaults (hreal : s.mode = .realAddress) (l : Loc) (n : Nat) (k : AccessKind)
    (h : go' = withPaging p go) :
    withAccess (s.withPageFaults p) l n k go' = withPaging p (withAccess s l n k go) := by
  rw [h, withAccess, withAccess, checkAccess_real s p l n k hreal]
  cases checkAccess s l n k <;> rfl

theorem withRmAccess_withPageFaults (hreal : s.mode = .realAddress) (rm : RM) (n : Nat) (k : AccessKind)
    (h : go' = withPaging p go) :
    withRmAccess (s.withPageFaults p) rm n k go' = withPaging p (withRmAccess s rm n k go) := by
  cases rm with
  | reg r => exact h
  | mem m =>
    rw [withRmAccess, memLoc_withPageFaults]
    exact withAccess_withPageFaults hreal (memLoc m s) n k h

theorem withSrcAccess_withPageFaults {w : Width} (hreal : s.mode = .realAddress) (src : Src w)
    (h : go' = withPaging p go) :
    withSrcAccess (s.withPageFaults p) src go' = withPaging p (withSrcAccess s src go) := by
  cases src with
  | imm v => exact h
  | rm r => exact withRmAccess_withPageFaults hreal r w.bytes .read h

end

/-! ### The outcome of each family -/

section
variable {s : State} (p : List PageFaultEntry)

theorem shiftInstr_withPageFaults (hreal : s.mode = .realAddress) (w : Width) (op : ShiftOp) (dst : RM) (raw : Byte) :
    shiftInstr w op dst raw (s.withPageFaults p) = withPaging p (shiftInstr w op dst raw s) := by
  refine need32_withPageFaults w (withRmAccess_withPageFaults hreal dst w.bytes .readwrite ?_)
  rw [State.withPageFaults_cfg]
  split
  · rfl
  · exact complete_withPageFaults (shiftState_withPageFaults ..)

theorem dshiftInstr_withPageFaults (hreal : s.mode = .realAddress) (w : Width) (op : DoubleShiftOp) (dst : RM)
    (src : RegNum) (raw : Byte) :
    dshiftInstr w op dst src raw (s.withPageFaults p) = withPaging p (dshiftInstr w op dst src raw s) := by
  refine need32_withPageFaults w (withRmAccess_withPageFaults hreal dst w.bytes .readwrite ?_)
  split
  · rfl
  · split
    · exact complete_withPageFaults (dshiftUndefinedState_withPageFaults ..)
    · exact complete_withPageFaults (dshiftState_withPageFaults ..)

theorem exec_subRow_withPageFaults (hreal : s.mode = .realAddress) {i : Instr} {r : SubRow} (hr : subRow i = some r) :
    exec i (s.withPageFaults p) = withPaging p (exec i s) := by
  rw [exec_subRow hr, exec_subRow hr]
  refine need32_withPageFaults r.w (withRmAccess_withPageFaults hreal r.dst r.w.bytes .readwrite
    (withSrcAccess_withPageFaults hreal r.src (complete_withPageFaults ?_)))
  simp only [readRm_withPageFaults, srcValue_withPageFaults, borrowIn_withPageFaults, writeRm_withPageFaults]
  rfl

theorem scas_withPageFaults (hreal : s.mode = .realAddress) (w : Width) (asz : Size) :
    scas w asz (s.withPageFaults p) = withPaging p (scas w asz s) := by
  refine need32_withPageFaults w (withAccess_withPageFaults hreal (stringLoc s asz) w.bytes .read
    (complete_withPageFaults ?_))
  rw [stringLoc_withPageFaults, State.withPageFaults_readLoc]
  exact congrArg (State.spend · 1) (stepDi_withPageFaults (s.withFlags _) p asz w)

theorem stos_withPageFaults (hreal : s.mode = .realAddress) (w : Width) (asz : Size) :
    stos w asz (s.withPageFaults p) = withPaging p (stos w asz s) := by
  refine need32_withPageFaults w (withAccess_withPageFaults hreal (stringLoc s asz) w.bytes .write
    (complete_withPageFaults ?_))
  simp only [State.writeLoc, State.withPageFaults_storeBytes, stepDi_withPageFaults, stringLoc_withPageFaults,
    State.withPageFaults_readReg]

theorem setcc_withPageFaults (hreal : s.mode = .realAddress) (cc : BitVec 4) (dst : RM) :
    setcc cc dst (s.withPageFaults p) = withPaging p (setcc cc dst s) :=
  withRmAccess_withPageFaults hreal dst 1 .write (complete_withPageFaults (writeRm_withPageFaults s p .w8 dst _))

theorem storeTable_withPageFaults (hreal : s.mode = .realAddress) (r : TableReg) (osz : Size) (dst : RM) :
    storeTable r osz dst (s.withPageFaults p) = withPaging p (storeTable r osz dst s) := by
  unfold storeTable
  rw [State.withPageFaults_cfg]
  split
  · rfl
  · cases dst with
    | reg n => rfl
    | mem m =>
      exact withAccess_withPageFaults hreal (memLoc m s) 6 .write
        (complete_withPageFaults (State.withPageFaults_storeBytes s p (memLoc m s) _))

theorem storeWord_withPageFaults (hreal : s.mode = .realAddress) (dst : RM) (v : Word16) :
    storeWord dst v (s.withPageFaults p) = withPaging p (storeWord dst v s) :=
  withRmAccess_withPageFaults hreal dst 2 .write (complete_withPageFaults (writeRm_withPageFaults s p .w16 dst v))

theorem storeWordHigh_withPageFaults (hreal : s.mode = .realAddress) (dst : RM) (high v : Word16) (d : Nat) :
    storeWordHigh dst high v d (s.withPageFaults p) = withPaging p (storeWordHigh dst high v d s) := by
  cases dst with
  | reg n => rfl
  | mem m => exact storeWord_withPageFaults p hreal (.mem m) v

theorem execSti_withPageFaults : execSti (s.withPageFaults p) = withPaging p (execSti s) := by
  have hallowed : stiAllowed (s.withPageFaults p) = stiAllowed s := rfl
  unfold execSti
  rw [hallowed]
  split <;> rfl

theorem execSysenter_withPageFaults : execSysenter (s.withPageFaults p) = withPaging p (execSysenter s) := by
  simp only [execSysenter, State.withPageFaults_cfg, State.withPageFaults_pe, State.withPageFaults_sysenterCs,
    apply_ite (withPaging p)]
  rfl

theorem execSysexit_withPageFaults : execSysexit (s.withPageFaults p) = withPaging p (execSysexit s) := by
  simp only [execSysexit, State.withPageFaults_cfg, State.withPageFaults_pe, State.withPageFaults_sysenterCs,
    State.withPageFaults_cpl, State.withPageFaults_mode, apply_ite (withPaging p)]
  rfl

end

/-- No instruction looks at the page-fault answers in real-address mode, nor writes them. -/
theorem exec_withPageFaults (i : Instr) {s : State} (p : List PageFaultEntry) (hreal : s.mode = .realAddress) :
    exec i (s.withPageFaults p) = withPaging p (exec i s) := by
  have hc := instr_families i
  simp only [Option.isSome_iff_exists] at hc
  rcases hc with ⟨r, hr⟩ | ⟨r, hr⟩ | ⟨r, hr⟩ | ⟨⟨w, asz⟩, hr⟩ | ⟨⟨w, asz⟩, hr⟩ | ⟨⟨cc, dst⟩, hr⟩ | hc
  · rw [exec_shiftRow hr, exec_shiftRow hr, countByte_withPageFaults]
    exact shiftInstr_withPageFaults p hreal ..
  · rw [exec_dshiftRow hr, exec_dshiftRow hr, countByte_withPageFaults]
    exact dshiftInstr_withPageFaults p hreal ..
  · exact exec_subRow_withPageFaults p hreal hr
  · rw [exec_scasRow hr, exec_scasRow hr]
    exact scas_withPageFaults p hreal w asz
  · rw [exec_stosRow hr, exec_stosRow hr]
    exact stos_withPageFaults p hreal w asz
  · rw [exec_setccRow hr, exec_setccRow hr]
    exact setcc_withPageFaults p hreal _ dst
  · rcases hc with rfl | rfl | rfl | rfl | rfl | rfl | ⟨osz, dst, rfl⟩ | ⟨osz, dst, rfl⟩ | ⟨dst, rfl⟩ | ⟨dst, rfl⟩ |
      ⟨dst, rfl⟩ | ⟨dst, rfl⟩ | ⟨osz, dst, rfl⟩
    · rfl
    · rfl
    · rfl
    · exact execSti_withPageFaults p
    · exact execSysenter_withPageFaults p
    · exact execSysexit_withPageFaults p
    · exact storeTable_withPageFaults p hreal s.gdtr osz dst
    · exact storeTable_withPageFaults p hreal s.idtr osz dst
    · exact protectedOnly_withPageFaults (storeWord_withPageFaults p hreal dst s.ldtr)
    · refine need32_withPageFaults .w32 (protectedOnly_withPageFaults ?_)
      rw [State.withPageFaults_cfg]
      split
      · exact storeWordHigh_withPageFaults p hreal dst (s.draw 16 0) s.ldtr 1
      · exact storeWordHigh_withPageFaults p hreal dst 0#16 s.ldtr 0
    · exact storeWord_withPageFaults p hreal dst _
    · exact storeWordHigh_withPageFaults p hreal dst (s.draw 16 0) _ 1
    · cases osz with
      | s16 => exact protectedOnly_withPageFaults (storeWord_withPageFaults p hreal dst s.tr)
      | s32 => exact protectedOnly_withPageFaults (storeWordHigh_withPageFaults p hreal dst 0#16 s.tr 0)

/-- Settles O55. -/
theorem realModeIgnoresPaging : Obligations.RealModeIgnoresPaging :=
  fun i _ p hreal => exec_withPageFaults i p hreal

end Sys2Proof.Machine
end

section
/-! PROOFS. The family 30_encoding.md: what a run of prefix bytes selects (R95, R96, R119), the ModR/M and SIB bytes and the
encoder's rows read back (R100 to R113), the bytes outside the tables (R117), the step on the bytes at CS:EIP, effective
addresses (R101 to R103), aliases (R109) and #UD (R115). -/

namespace Sys2Proof

open Machine Machine.Ref

/-! ## Runs of prefix bytes (R95, R96, R119 step 1) -/

/-- The segment a byte overrides to (R95). -/
def overrideOf (b : Byte) : Option SegName :=
  match b.toNat with
  | 0x26 => some .es
  | 0x2E => some .cs
  | 0x36 => some .ss
  | 0x3E => some .ds
  | 0x64 => some .fs
  | 0x65 => some .gs
  | _ => none

/-- The last override of a run of prefix bytes (R103). -/
def lastOverride : List Byte → Option SegName
  | [] => none
  | b :: bs => (lastOverride bs).or (overrideOf b)

/-- What a run of prefix bytes makes of a set: each byte is in it or not, the last override counts. -/
def Prefixes.after (p : Prefixes) (pre : List Byte) : Prefixes :=
  { seg := (lastOverride pre).or p.seg
    opsize := p.opsize || pre.contains 0x66#8
    addrsize := p.addrsize || pre.contains 0x67#8
    lock := p.lock || pre.contains 0xF0#8
    rep := p.rep || (pre.contains 0xF2#8 || pre.contains 0xF3#8) }

theorem Prefixes.add_of_mem (p : Prefixes) {b : Byte} (h : b ∈ prefixBytes) : p.add b = some (p.after [b]) := by
  simp only [prefixBytes, segBytes, List.cons_append, List.nil_append, List.mem_cons, List.not_mem_nil, or_false] at h
  rcases h with rfl | rfl | rfl | rfl | rfl | rfl | rfl | rfl | rfl | rfl | rfl <;>
    simp [Prefixes.add, Prefixes.after, lastOverride, overrideOf]

/-- Whether a byte is a prefix byte does not depend on those before it. -/
theorem Prefixes.add_isNone (p : Prefixes) (b : Byte) : (p.add b).isNone = (Prefixes.empty.add b).isNone := by
  unfold Prefixes.add
  split <;> rfl

theorem Prefixes.add_of_not_mem (p : Prefixes) {b : Byte} (h : b ∉ prefixBytes) : p.add b = none := by
  have hb : ∀ b : Byte, b ∉ prefixBytes → (Prefixes.empty.add b).isNone = true := by decide
  exact Option.isNone_iff_eq_none.mp ((p.add_isNone b).trans (hb b h))

theorem Prefixes.after_cons (p : Prefixes) (b : Byte) (pre : List Byte) :
    p.after (b :: pre) = (p.after [b]).after pre := by
  simp [Prefixes.after, lastOverride, Option.or_assoc, Bool.or_assoc, Bool.or_left_comm]

theorem takePrefixes_run {pre : List Byte} (hpre : ∀ b ∈ pre, b ∈ prefixBytes) (p : Prefixes) (bs : List Byte) :
    takePrefixes p (pre ++ bs) = takePrefixes (p.after pre) bs := by
  induction pre generalizing p with
  | nil => simp [Prefixes.after, lastOverride]
  | cons b pre ih =>
    rw [List.forall_mem_cons] at hpre
    rw [List.cons_append, takePrefixes, p.add_of_mem hpre.1, p.after_cons b pre]
    exact ih hpre.2 _

theorem takePrefixes_opcode (p : Prefixes) {op : Byte} (hop : op ∉ prefixBytes) (r : List Byte) :
    takePrefixes p (op :: r) = (p, op :: r) := by
  rw [takePrefixes, p.add_of_not_mem hop]

/-! ## Decoding after a run of prefix bytes (R119 steps 1 to 3) -/

/-- The size a run of prefix bytes selects, `toggle` being the 66h or 67h byte (R96). -/
def runSize (toggle : Byte) (pre : List Byte) (dflt : Size) : Size := if toggle ∈ pre then dflt.other else dflt

/-- All that decoding makes of a run of prefix bytes. -/
theorem decode_run {pre : List Byte} (hpre : ∀ b ∈ pre, b ∈ prefixBytes) {op : Byte} (hop : op ∉ prefixBytes)
    (dflt : Size) (r : List Byte) :
    decode dflt (pre ++ op :: r) =
      if 0xF0#8 ∈ pre then .error .lockPrefix
      else if 0xF2#8 ∈ pre ∨ 0xF3#8 ∈ pre then .error .repPrefix
      else decodeOpcode (runSize 0x66#8 pre dflt) (runSize 0x67#8 pre dflt) (lastOverride pre) op r := by
  unfold decode
  rw [takePrefixes_run hpre, takePrefixes_opcode _ hop]
  simp [Prefixes.after, Prefixes.empty, Prefixes.operandSize, Prefixes.addressSize, runSize]

/-- Prefix bytes alone are cut short, LOCK and REP bytes or not (log entry 19). -/
theorem decode_prefixes_only {pre : List Byte} (hpre : ∀ b ∈ pre, b ∈ prefixBytes) (dflt : Size) :
    decode dflt pre = .error .truncated := by
  have h := takePrefixes_run hpre .empty []
  rw [List.append_nil] at h
  unfold decode
  rw [h]
  rfl

/-! ## Repeated prefix bytes -/

theorem lastOverride_isSome_of_mem {b : Byte} {pre : List Byte} (hb : b ∈ pre) (ho : (overrideOf b).isSome = true) :
    (lastOverride pre).isSome = true := by
  induction pre with
  | nil => cases hb
  | cons c pre ih =>
    rw [lastOverride, Option.isSome_or, Bool.or_eq_true]
    rcases List.mem_cons.mp hb with rfl | hb
    · exact .inr ho
    · exact .inl (ih hb)

theorem lastOverride_cons_of_mem {b : Byte} {pre : List Byte} (hb : b ∈ pre) :
    lastOverride (b :: pre) = lastOverride pre := by
  rw [lastOverride]
  cases ho : overrideOf b with
  | none => exact Option.or_none
  | some sg =>
    obtain ⟨sg', hs⟩ := Option.isSome_iff_exists.mp (lastOverride_isSome_of_mem hb (ho ▸ rfl))
    rw [hs, Option.some_or]

/-- A byte that stands in the run again adds nothing to the set. -/
theorem Prefixes.after_cons_of_mem (p : Prefixes) {b : Byte} {pre : List Byte} (hb : b ∈ pre) :
    p.after (b :: pre) = p.after pre := by
  have hc : ∀ x : Byte, (b :: pre).contains x = pre.contains x := fun x => by
    rw [Bool.eq_iff_iff, List.contains_iff_mem, List.contains_iff_mem, List.mem_cons,
      or_iff_right_of_imp (fun h => h ▸ hb)]
  simp only [Prefixes.after, hc, lastOverride_cons_of_mem hb]

theorem decode_cons_of_mem {b : Byte} {pre : List Byte} (hpre : ∀ p ∈ pre, p ∈ prefixBytes) (hb : b ∈ pre) (dflt : Size)
    (rest : List Byte) : decode dflt (b :: pre ++ rest) = decode dflt (pre ++ rest) := by
  have h : takePrefixes .empty (b :: pre ++ rest) = takePrefixes .empty (pre ++ rest) := by
    rw [takePrefixes_run (List.forall_mem_cons.mpr ⟨hpre b hb, hpre⟩), takePrefixes_run hpre,
      Prefixes.after_cons_of_mem _ hb]
  unfold decode
  rw [h]

/-! ## ModR/M and SIB bytes read back (R100 to R102) -/

theorem modField_packModRM : ∀ (mod : BitVec 2) (reg rm : RegNum), modField (packModRM mod reg rm) = mod := by decide

theorem regField_packModRM : ∀ (mod : BitVec 2) (reg rm : RegNum), regField (packModRM mod reg rm) = reg := by decide

theorem rmField_packModRM : ∀ (mod : BitVec 2) (reg rm : RegNum), rmField (packModRM mod reg rm) = rm := by decide

theorem sibIndex_getD {index : Option RegNum} (h : Addr32.indexWf index = true) : sibIndex (index.getD 4#3) = index := by
  cases index with
  | none => rfl
  | some n =>
    have hn : n ≠ 4#3 := by simpa [Addr32.indexWf] using h
    simp [sibIndex, hn]

@[simp] theorem Base16.ofField_field (b : Base16) : Base16.ofField b.field = b := by cases b <;> rfl

theorem Base16.eq_bp_of_field (b : Base16) : b.field = 6#3 → b = .bp := by cases b <;> decide

section
variable {α : Type} (bs : List Byte)

@[simp] theorem take8_cons (b : Byte) (k : Byte → List Byte → Except DecodeStop α) : take8 (b :: bs) k = k b bs := rfl

@[simp] theorem take16_le16 (d : Word16) (k : Word16 → List Byte → Except DecodeStop α) :
    take16 (le16 d ++ bs) k = k d bs := by
  change k (d.extractLsb' 8 8 ++ d.extractLsb' 0 8) bs = k d bs
  rw [join16]

@[simp] theorem take32_le32 (d : Word32) (k : Word32 → List Byte → Except DecodeStop α) :
    take32 (le32 d ++ bs) k = k d bs := by
  change k (d.extractLsb' 24 8 ++ d.extractLsb' 16 8 ++ d.extractLsb' 8 8 ++ d.extractLsb' 0 8) bs = k d bs
  rw [join32]

end

/-- The sizes and the override that decoding an operand needs: nothing for a register. -/
def RM.reads (asz : Size) (seg : Option SegName) : RM → Prop
  | .reg _ => True
  | .mem m => asz = m.ea.size ∧ seg = m.override

/-- The bytes of a 16-bit form are a ModR/M byte that is no register form, and bytes read back from its fields. -/
theorem Addr16.bytes_read {a : Addr16} (hwf : a.wf = true) (reg : RegNum) :
    ∃ mod rm tail, a.bytes reg = packModRM mod reg rm :: tail ∧ mod ≠ 3#2 ∧
      ∀ t k, withAddr16 mod rm (tail ++ t) k = k (.a16 a) t := by
  cases a with
  | direct d => exact ⟨0#2, 6#3, le16 d, rfl, by decide, fun t k => by simp [withAddr16]⟩
  | base b d =>
    cases d with
    | none =>
      have hb : b.field ≠ 6#3 := fun h => by
        cases b.eq_bp_of_field h
        cases hwf
      exact ⟨0#2, b.field, [], rfl, by decide, fun t k => by simp [withAddr16, hb]⟩
    | d8 d => exact ⟨1#2, b.field, [d], rfl, by decide, fun t k => by simp [withAddr16]⟩
    | d16 d => exact ⟨2#2, b.field, le16 d, rfl, by decide, fun t k => by simp [withAddr16]⟩

theorem Addr32.baseWf_none {b : RegNum} (h : Addr32.baseWf b .none = true) : b ≠ 5#3 := by
  simpa [Addr32.baseWf] using h

/-- The SIB byte of a form with a base and what its displacement is read as. -/
theorem withSib_sib {scale : BitVec 2} {index : Option RegNum} {b : RegNum} {d : Disp32}
    (hindex : Addr32.indexWf index = true) (hbase : Addr32.baseWf b d = true) (t : List Byte)
    (k : EffAddr → List Byte → Decoded) :
    withSib d.mod (packModRM scale (index.getD 4#3) b :: (d.bytes ++ t)) k = k (.a32 (.sib scale index b d)) t := by
  cases d with
  | none =>
    simp [withSib, Disp32.mod, Disp32.bytes, modField_packModRM, regField_packModRM, rmField_packModRM,
      sibIndex_getD hindex, Addr32.baseWf_none hbase]
  | d8 d =>
    simp [withSib, Disp32.mod, Disp32.bytes, modField_packModRM, regField_packModRM, rmField_packModRM,
      sibIndex_getD hindex]
  | d32 d =>
    simp [withSib, Disp32.mod, Disp32.bytes, modField_packModRM, regField_packModRM, rmField_packModRM,
      sibIndex_getD hindex]

theorem withSib_sibNoBase {scale : BitVec 2} {index : Option RegNum} (hindex : Addr32.indexWf index = true) (d : Word32)
    (t : List Byte) (k : EffAddr → List Byte → Decoded) :
    withSib 0#2 (packModRM scale (index.getD 4#3) 5#3 :: (le32 d ++ t)) k = k (.a32 (.sibNoBase scale index d)) t := by
  simp [withSib, modField_packModRM, regField_packModRM, rmField_packModRM, sibIndex_getD hindex]

theorem Disp32.mod_ne_three (d : Disp32) : d.mod ≠ 3#2 := by cases d <;> simp [Disp32.mod]

/-- The bytes of a 32-bit form are a ModR/M byte that is no register form, and bytes read back from its fields. -/
theorem Addr32.bytes_read {a : Addr32} (hwf : a.wf = true) (reg : RegNum) :
    ∃ mod rm tail, a.bytes reg = packModRM mod reg rm :: tail ∧ mod ≠ 3#2 ∧
      ∀ t k, withAddr32 mod rm (tail ++ t) k = k (.a32 a) t := by
  cases a with
  | direct d => exact ⟨0#2, 5#3, le32 d, rfl, by decide, fun t k => by simp [withAddr32]⟩
  | sib scale index b d =>
    obtain ⟨hindex, hbase⟩ := Bool.and_eq_true_iff.mp hwf
    exact ⟨d.mod, 4#3, _, rfl, d.mod_ne_three, withSib_sib hindex hbase⟩
  | sibNoBase scale index d => exact ⟨0#2, 4#3, _, rfl, by decide, withSib_sibNoBase hwf d⟩
  | base b d =>
    obtain ⟨hb, hbase⟩ := Bool.and_eq_true_iff.mp hwf
    have hb4 : b ≠ 4#3 := by simpa using hb
    refine ⟨d.mod, b, d.bytes, rfl, d.mod_ne_three, fun t k => ?_⟩
    cases d with
    | none => simp [withAddr32, hb4, Disp32.mod, Disp32.bytes, Addr32.baseWf_none hbase]
    | d8 d => simp [withAddr32, hb4, Disp32.mod, Disp32.bytes]
    | d32 d => simp [withAddr32, hb4, Disp32.mod, Disp32.bytes]

/-- The bytes of an `r/m` operand: a ModR/M byte with the reg field, from whose other fields and the bytes after it the
operand is read back. -/
theorem RM.bytes_read {rm : RM} (hwf : rm.wf = true) {asz : Size} {seg : Option SegName} (hr : rm.reads asz seg)
    (reg : RegNum) :
    ∃ m tail, rm.bytes reg = m :: tail ∧ regField m = reg ∧
      ∀ t k, withRm asz seg (modField m) (rmField m) (tail ++ t) k = k rm t := by
  cases rm with
  | reg n =>
    exact ⟨packModRM 3#2 reg n, [], rfl, regField_packModRM .., fun t k => by
      simp [withRm, modField_packModRM, rmField_packModRM]⟩
  | mem m =>
    obtain ⟨ea, ov⟩ := m
    obtain ⟨rfl, rfl⟩ := hr
    cases ea with
    | a16 a =>
      obtain ⟨mod, rm, tail, hbytes, hmod, hread⟩ := Addr16.bytes_read hwf reg
      refine ⟨packModRM mod reg rm, tail, hbytes, regField_packModRM .., fun t k => ?_⟩
      rw [modField_packModRM, rmField_packModRM]
      exact (if_neg hmod).trans (hread t _)
    | a32 a =>
      obtain ⟨mod, rm, tail, hbytes, hmod, hread⟩ := Addr32.bytes_read hwf reg
      refine ⟨packModRM mod reg rm, tail, hbytes, regField_packModRM .., fun t k => ?_⟩
      rw [modField_packModRM, rmField_packModRM]
      exact (if_neg hmod).trans (hread t _)

theorem withModRM_bytes {rm : RM} (hwf : rm.wf = true) {asz : Size} {seg : Option SegName} (hr : rm.reads asz seg)
    (reg : RegNum) (t : List Byte) (k : RegNum → RM → List Byte → Decoded) :
    withModRM asz seg (rm.bytes reg ++ t) k = k reg rm t := by
  obtain ⟨m, tail, hbytes, hreg, hread⟩ := RM.bytes_read hwf hr reg
  rw [hbytes, List.cons_append, withModRM, take8_cons, hread, hreg]

theorem withGroup_bytes {rm : RM} (hwf : rm.wf = true) {asz : Size} {seg : Option SegName} (hr : rm.reads asz seg)
    {reg : RegNum} {rows : RegNum → Option (RM → List Byte → Decoded)} {k : RM → List Byte → Decoded}
    (hk : rows reg = some k) (t : List Byte) : withGroup asz seg (rm.bytes reg ++ t) rows = k rm t := by
  obtain ⟨m, tail, hbytes, hreg, hread⟩ := RM.bytes_read hwf hr reg
  rw [hbytes, List.cons_append, withGroup, take8_cons, hreg, hk]
  exact hread t k

/-! ## The prefix bytes the encoder writes (R96, R103) -/

/-- The prefix bytes that select a size or a segment (R95). -/
def sizeSegBytes : List Byte := 0x66#8 :: 0x67#8 :: segBytes

theorem sizeSegBytes_subset : ∀ b ∈ sizeSegBytes, b ∈ prefixBytes ∧ b ≠ 0xF0#8 ∧ b ≠ 0xF2#8 ∧ b ≠ 0xF3#8 := by decide

/-- Size and segment prefix bytes refuse nothing: decoding goes on with what they select. -/
theorem decode_sizeSeg {run : List Byte} (hrun : ∀ b ∈ run, b ∈ sizeSegBytes) {op : Byte} (hop : op ∉ prefixBytes)
    (dflt : Size) (r : List Byte) :
    decode dflt (run ++ op :: r) =
      decodeOpcode (runSize 0x66#8 run dflt) (runSize 0x67#8 run dflt) (lastOverride run) op r := by
  have hF0 : 0xF0#8 ∉ run := fun h => (sizeSegBytes_subset _ (hrun _ h)).2.1 rfl
  have hF2 : 0xF2#8 ∉ run := fun h => (sizeSegBytes_subset _ (hrun _ h)).2.2.1 rfl
  have hF3 : 0xF3#8 ∉ run := fun h => (sizeSegBytes_subset _ (hrun _ h)).2.2.2 rfl
  rw [decode_run (fun b hb => (sizeSegBytes_subset b (hrun b hb)).1) hop, if_neg hF0, if_neg (not_or.mpr ⟨hF2, hF3⟩)]

theorem mem_osBytes {dflt o : Size} {b : Byte} (h : b ∈ osBytes dflt o) : b = 0x66#8 := by
  unfold osBytes at h
  split at h
  · cases h
  · exact List.mem_singleton.mp h

theorem mem_asBytes {dflt a : Size} {b : Byte} (h : b ∈ asBytes dflt a) : b = 0x67#8 := by
  unfold asBytes at h
  split at h
  · cases h
  · exact List.mem_singleton.mp h

theorem SegName.byte_mem_segBytes (sg : SegName) : sg.byte ∈ segBytes := by cases sg <;> decide

theorem overrideOf_byte (sg : SegName) : overrideOf sg.byte = some sg := by cases sg <;> rfl

theorem overrideOf_of_not_mem : ∀ b : Byte, b ∉ segBytes → overrideOf b = none := by decide

theorem lastOverride_append (a b : List Byte) : lastOverride (a ++ b) = (lastOverride b).or (lastOverride a) := by
  induction a with
  | nil => exact Option.or_none.symm
  | cons x a ih => rw [List.cons_append, lastOverride, ih, lastOverride, Option.or_assoc]

theorem lastOverride_eq_none {run : List Byte} (h : ∀ b ∈ run, b ∉ segBytes) : lastOverride run = none := by
  induction run with
  | nil => rfl
  | cons b run ih =>
    rw [List.forall_mem_cons] at h
    rw [lastOverride, ih h.2, overrideOf_of_not_mem b h.1, Option.or_none]

theorem lastOverride_osBytes (dflt o : Size) : lastOverride (osBytes dflt o) = none :=
  lastOverride_eq_none fun _ hb => mem_osBytes hb ▸ by decide

theorem lastOverride_asBytes (dflt a : Size) : lastOverride (asBytes dflt a) = none :=
  lastOverride_eq_none fun _ hb => mem_asBytes hb ▸ by decide

theorem runSize_append {t : Byte} {post : List Byte} (h : t ∉ post) (pre : List Byte) (dflt : Size) :
    runSize t (pre ++ post) dflt = runSize t pre dflt := by
  simp [runSize, h]

/-- The byte written where a size is not the default makes it that size. -/
theorem runSize_toggle {t : Byte} {pre : List Byte} (h : t ∉ pre) (dflt o : Size) :
    runSize t (pre ++ if o = dflt then [] else [t]) dflt = o := by
  cases dflt <;> cases o <;> simp [runSize, h, Size.other]

theorem runSize_osBytes {pre : List Byte} (h : 0x66#8 ∉ pre) (dflt o : Size) :
    runSize 0x66#8 (pre ++ osBytes dflt o) dflt = o := runSize_toggle h dflt o

theorem runSize_asBytes {pre : List Byte} (h : 0x67#8 ∉ pre) (dflt a : Size) :
    runSize 0x67#8 (pre ++ asBytes dflt a) dflt = a := runSize_toggle h dflt a

theorem opsize_not_mem_asBytes (dflt a : Size) : 0x66#8 ∉ asBytes dflt a := fun h => absurd (mem_asBytes h) (by decide)

theorem addrsize_not_mem_osBytes (dflt o : Size) : 0x67#8 ∉ osBytes dflt o := fun h => absurd (mem_osBytes h) (by decide)

theorem mem_override_toList {ov : Option SegName} {b : Byte} (h : b ∈ (ov.map SegName.byte).toList) : b ∈ segBytes := by
  cases ov with
  | none => cases h
  | some sg => exact List.mem_singleton.mp h ▸ sg.byte_mem_segBytes

theorem lastOverride_override (ov : Option SegName) : lastOverride (ov.map SegName.byte).toList = ov := by
  cases ov with
  | none => rfl
  | some sg => exact overrideOf_byte sg

theorem mem_rm_pre {dflt : Size} {rm : RM} {b : Byte} (h : b ∈ rm.pre dflt) : b = 0x67#8 ∨ b ∈ segBytes := by
  cases rm with
  | reg n => cases h
  | mem m => exact (List.mem_append.mp h).imp mem_asBytes mem_override_toList

theorem opsize_not_mem_rm_pre (dflt : Size) (rm : RM) : 0x66#8 ∉ rm.pre dflt := fun h =>
  absurd (mem_rm_pre h) (by decide)

/-- A run leaves an operand's own prefix bytes in force: nothing in it selects an address size or a segment, or the
operand is a register. -/
def leavesOperand (run : List Byte) (rm : RM) : Prop :=
  ∀ m, rm = .mem m → 0x67#8 ∉ run ∧ lastOverride run = none

/-- After such a run, the operand's prefix bytes select what reading it needs. -/
theorem RM.reads_pre {run : List Byte} {rm : RM} (h : leavesOperand run rm) (dflt : Size) :
    rm.reads (runSize 0x67#8 (run ++ rm.pre dflt) dflt) (lastOverride (run ++ rm.pre dflt)) := by
  cases rm with
  | reg n => trivial
  | mem m =>
    obtain ⟨h67, hov⟩ := h m rfl
    have hseg : 0x67#8 ∉ (m.override.map SegName.byte).toList := fun hb =>
      absurd (mem_override_toList hb) (by decide)
    refine ⟨?_, ?_⟩
    · rw [RM.pre, ← List.append_assoc, runSize_append hseg, runSize_asBytes h67]
    · rw [RM.pre, lastOverride_append, lastOverride_append, lastOverride_asBytes, hov, Option.or_none, Option.or_none,
        lastOverride_override]

/-! ## Rows read back (R112, R113) -/

/-- The row of an opcode, a reg field, an operand and an immediate at an operand size decodes to `j`. -/
def rowReads (osz : Size) (op : Byte) (ops : List Byte) (reg : RegNum) (rm : RM) (imm : List Byte) (j : Instr) : Prop :=
  ∀ asz seg t, rm.wf = true → rm.reads asz seg →
    decodeOpcode osz asz seg op (ops ++ (rm.bytes reg ++ (imm ++ t))) = .ok (j, t)

section
variable {osz : Size} {op : Byte} {ops : List Byte} {reg : RegNum} {rm : RM} {imm : List Byte} {j : Instr}

/-- The row of a ModR/M byte whose reg field is read (R92 `/r`): `k` is what the opcode goes on with. -/
theorem rowReads_modRM (k : RegNum → RM → List Byte → Decoded)
    (hop : ∀ asz seg t, decodeOpcode osz asz seg op (ops ++ t) = withModRM asz seg t k := by exact fun _ _ _ => rfl)
    (hk : ∀ t, k reg rm (imm ++ t) = .ok (j, t) := by exact fun _ => rfl) : rowReads osz op ops reg rm imm j := by
  intro asz seg t hwf hr
  rw [hop, withModRM_bytes hwf hr, hk]

/-- A row whose reg field is not looked at (44_setcc.md R239). -/
theorem rowReads_operand {f : RM → Instr}
    (hop : ∀ asz seg t, decodeOpcode osz asz seg op (ops ++ t) = withModRM asz seg t fun _ => done f) :
    rowReads osz op ops reg rm [] (f rm) :=
  rowReads_modRM (fun _ => done f) hop

/-- The row of a group's digit (R92 `/digit`). -/
theorem rowReads_group {rows : RegNum → Option (RM → List Byte → Decoded)} {k : RM → List Byte → Decoded}
    (hop : ∀ asz seg t, decodeOpcode osz asz seg op (ops ++ t) = withGroup asz seg t rows := by exact fun _ _ _ => rfl)
    (hrow : rows reg = some k := by exact rfl) (hk : ∀ t, k rm (imm ++ t) = .ok (j, t) := by exact fun _ => rfl) :
    rowReads osz op ops reg rm imm j := by
  intro asz seg t hwf hr
  rw [hop, withGroup_bytes hwf hr hrow, hk]

/-- After a run that leaves its operand alone, the encoding of a row decodes at the operand size of the run. -/
theorem decode_enc8 {run : List Byte} (hrun : ∀ b ∈ run, b ∈ sizeSegBytes) (hrm : leavesOperand run rm)
    (hwf : rm.wf = true) (hop : op ∉ prefixBytes) {dflt : Size}
    (hrow : rowReads (runSize 0x66#8 run dflt) op ops reg rm imm j) (rest : List Byte) :
    decode dflt (run ++ enc8 dflt (op :: ops) reg rm imm ++ rest) = .ok (j, rest) := by
  have hall : ∀ b ∈ run ++ rm.pre dflt, b ∈ sizeSegBytes := fun b hb =>
    (List.mem_append.mp hb).elim (hrun b) fun h => List.mem_cons_of_mem _ (List.mem_cons.mpr (mem_rm_pre h))
  have hsplit : run ++ enc8 dflt (op :: ops) reg rm imm ++ rest =
      (run ++ rm.pre dflt) ++ op :: (ops ++ (rm.bytes reg ++ (imm ++ rest))) := by simp [enc8]
  rw [hsplit, decode_sizeSeg hall hop, runSize_append (opsize_not_mem_rm_pre dflt rm)]
  exact hrow _ _ rest hwf (RM.reads_pre hrm dflt)

/-- The same of a row of one operand size. -/
theorem decode_encW {run : List Byte} (hrun : ∀ b ∈ run, b ∈ sizeSegBytes) (h66 : 0x66#8 ∉ run)
    (hrm : leavesOperand run rm) (hwf : rm.wf = true) (hop : op ∉ prefixBytes) {dflt : Size}
    (hrow : rowReads osz op ops reg rm imm j) (rest : List Byte) :
    decode dflt (run ++ encW dflt osz (op :: ops) reg rm imm ++ rest) = .ok (j, rest) := by
  have hall : ∀ b ∈ run ++ osBytes dflt osz, b ∈ sizeSegBytes := fun b hb =>
    (List.mem_append.mp hb).elim (hrun b) fun h => mem_osBytes h ▸ List.mem_cons_self
  have hrm' : leavesOperand (run ++ osBytes dflt osz) rm := fun m hm =>
    ⟨fun h => (List.mem_append.mp h).elim (hrm m hm).1 (addrsize_not_mem_osBytes dflt osz), by
      rw [lastOverride_append, lastOverride_osBytes, Option.none_or, (hrm m hm).2]⟩
  rw [encW, ← List.append_assoc]
  exact decode_enc8 hall hrm' hwf hop (by rwa [runSize_osBytes h66]) rest

end

/-! ## Bytes with nothing to act on (R97, R99; D13, D15) -/

/-- No operand width of the instruction depends on OperandSize, as far as `idlePrefix` says. -/
def opsizeIdle (i : Instr) : Prop := noOperand i ∨ (setccRow i).isSome = true ∨ byteRow i

section
variable {i : Instr} {pre : List Byte} (hidle : ∀ b ∈ pre, idlePrefix i b)

include hidle

theorem idle_sizeSeg : ∀ b ∈ pre, b ∈ sizeSegBytes := fun b hb =>
  match hidle b hb with
  | .inl ⟨h, _⟩ => h ▸ by decide
  | .inr (.inl ⟨h, _⟩) => h ▸ by decide
  | .inr (.inr ⟨h, _⟩) => List.mem_cons_of_mem _ (List.mem_cons_of_mem _ h)

theorem opsize_not_mem_of_idle (hi : ¬ opsizeIdle i := by
      simp [opsizeIdle, noOperand, setccRow, byteRow, shiftRow, subRow, scasRow, stosRow]) : 0x66#8 ∉ pre := by
  intro hb
  rcases hidle _ hb with ⟨_, h⟩ | ⟨h, _⟩ | ⟨h, _⟩
  · exact hi h
  · exact absurd h (by decide)
  · exact absurd h (by decide)

theorem addrsize_not_mem_of_idle {s : State} (hi : dataAccess s i ≠ none) : 0x67#8 ∉ pre := by
  intro hb
  rcases hidle _ hb with ⟨h, _⟩ | ⟨_, h⟩ | ⟨h, _⟩
  · exact absurd h (by decide)
  · exact hi (h s)
  · exact absurd h (by decide)

theorem override_none_of_idle {s : State} (hi : dataAccess s i ≠ none) (hstr : ¬ stringRow i) :
    lastOverride pre = none := by
  refine lastOverride_eq_none fun b hb hseg => ?_
  rcases hidle b hb with ⟨rfl, _⟩ | ⟨rfl, _⟩ | ⟨_, h | h⟩
  · exact absurd hseg (by decide)
  · exact absurd hseg (by decide)
  · exact hi (h s)
  · exact hstr h

theorem leavesOperand_of_idle {rm : RM} {n : Nat} {kind : AccessKind} (hacc : ∀ s, dataAccess s i = rmAccess s rm n kind)
    (hscas : scasRow i = none) (hstos : stosRow i = none) : leavesOperand pre rm := by
  have hstr : ¬ stringRow i := by simp [stringRow, hscas, hstos]
  rintro m rfl
  have hi : dataAccess State.reset i ≠ none := by rw [hacc]; exact Option.some_ne_none _
  exact ⟨addrsize_not_mem_of_idle hidle hi, override_none_of_idle hidle hi hstr⟩

end

/-! ## Every instruction read back -/

/-- A row with no ModR/M byte that reads no size. -/
theorem decode_plain {run : List Byte} (hrun : ∀ b ∈ run, b ∈ sizeSegBytes) {op : Byte} (hop : op ∉ prefixBytes)
    {ops rest : List Byte} {j : Instr} (hrow : ∀ osz asz seg, decodeOpcode osz asz seg op (ops ++ rest) = .ok (j, rest))
    (dflt : Size) : decode dflt (run ++ op :: ops ++ rest) = .ok (j, rest) := by
  rw [List.append_assoc, List.cons_append, decode_sizeSeg hrun hop, hrow]

/-- A row with no ModR/M byte that reads its operand size. -/
theorem decode_plainW {run : List Byte} (hrun : ∀ b ∈ run, b ∈ sizeSegBytes) (h66 : 0x66#8 ∉ run) {op : Byte}
    (hop : op ∉ prefixBytes) {osz : Size} {ops rest : List Byte} {j : Instr}
    (hrow : ∀ asz seg, decodeOpcode osz asz seg op (ops ++ rest) = .ok (j, rest)) (dflt : Size) :
    decode dflt (run ++ (osBytes dflt osz ++ op :: ops) ++ rest) = .ok (j, rest) := by
  have hall : ∀ b ∈ run ++ osBytes dflt osz, b ∈ sizeSegBytes := fun b hb =>
    (List.mem_append.mp hb).elim (hrun b) fun h => mem_osBytes h ▸ List.mem_cons_self
  have hsplit : run ++ (osBytes dflt osz ++ op :: ops) ++ rest =
      (run ++ osBytes dflt osz) ++ op :: (ops ++ rest) := by simp
  rw [hsplit, decode_sizeSeg hall hop, runSize_osBytes h66, hrow]

theorem decode_acc16 {run : List Byte} (hrun : ∀ b ∈ run, b ∈ sizeSegBytes) (h66 : 0x66#8 ∉ run) {op : Byte}
    (hop : op ∉ prefixBytes) {f : Word16 → Instr}
    (hrow : ∀ asz seg bs, decodeOpcode .s16 asz seg op bs = take16 bs fun d r => .ok (f d, r)) (imm : Word16)
    (dflt : Size) (rest : List Byte) :
    decode dflt (run ++ (osBytes dflt .s16 ++ op :: le16 imm) ++ rest) = .ok (f imm, rest) :=
  decode_plainW hrun h66 hop (fun asz seg => by rw [hrow, take16_le16]) dflt

theorem thenIwd_s16 (f : RM → Word16 → Instr) (g : RM → Word32 → Instr) (rm : RM) (imm : Word16) (t : List Byte) :
    thenIwd .s16 f g rm (le16 imm ++ t) = .ok (f rm imm, t) :=
  take16_le16 t imm fun d r => .ok (f rm d, r)

theorem decode_acc32 {run : List Byte} (hrun : ∀ b ∈ run, b ∈ sizeSegBytes) (h66 : 0x66#8 ∉ run) {op : Byte}
    (hop : op ∉ prefixBytes) {f : Word32 → Instr}
    (hrow : ∀ asz seg bs, decodeOpcode .s32 asz seg op bs = take32 bs fun d r => .ok (f d, r)) (imm : Word32)
    (dflt : Size) (rest : List Byte) :
    decode dflt (run ++ (osBytes dflt .s32 ++ op :: le32 imm) ++ rest) = .ok (f imm, rest) :=
  decode_plainW hrun h66 hop (fun asz seg => by rw [hrow, take32_le32]) dflt

theorem thenIwd_s32 (f : RM → Word16 → Instr) (g : RM → Word32 → Instr) (rm : RM) (imm : Word32) (t : List Byte) :
    thenIwd .s32 f g rm (le32 imm ++ t) = .ok (g rm imm, t) :=
  take32_le32 t imm fun d r => .ok (g rm d, r)

/-- A row with no ModR/M byte that reads its address size. -/
theorem decode_string {run : List Byte} (hrun : ∀ b ∈ run, b ∈ sizeSegBytes) (h67 : 0x67#8 ∉ run) {op : Byte}
    (hop : op ∉ prefixBytes) {asz dflt : Size} {rest : List Byte} {j : Instr}
    (hrow : ∀ seg, decodeOpcode (runSize 0x66#8 run dflt) asz seg op rest = .ok (j, rest)) :
    decode dflt (run ++ (asBytes dflt asz ++ [op]) ++ rest) = .ok (j, rest) := by
  have hall : ∀ b ∈ run ++ asBytes dflt asz, b ∈ sizeSegBytes := fun b hb =>
    (List.mem_append.mp hb).elim (hrun b) fun h => mem_asBytes h ▸ by decide
  have hsplit : run ++ (asBytes dflt asz ++ [op]) ++ rest = (run ++ asBytes dflt asz) ++ op :: rest := by simp
  rw [hsplit, decode_sizeSeg hall hop, runSize_asBytes h67, runSize_append (opsize_not_mem_asBytes dflt asz), hrow]

/-- A row with no ModR/M byte that reads both sizes. -/
theorem decode_stringW {run : List Byte} (hrun : ∀ b ∈ run, b ∈ sizeSegBytes) (h66 : 0x66#8 ∉ run) (h67 : 0x67#8 ∉ run)
    {op : Byte} (hop : op ∉ prefixBytes) {osz asz dflt : Size} {rest : List Byte} {j : Instr}
    (hrow : ∀ seg, decodeOpcode osz asz seg op rest = .ok (j, rest)) :
    decode dflt (run ++ (osBytes dflt osz ++ asBytes dflt asz ++ [op]) ++ rest) = .ok (j, rest) := by
  have hall : ∀ b ∈ run ++ osBytes dflt osz, b ∈ sizeSegBytes := fun b hb =>
    (List.mem_append.mp hb).elim (hrun b) fun h => mem_osBytes h ▸ List.mem_cons_self
  have hrun67 : 0x67#8 ∉ run ++ osBytes dflt osz := fun h =>
    (List.mem_append.mp h).elim h67 (addrsize_not_mem_osBytes dflt osz)
  have h := decode_string (asz := asz) hall hrun67 hop (rest := rest) (by rw [runSize_osBytes h66]; exact hrow)
  simpa using h

section
variable {i : Instr} {pre : List Byte} (hidle : ∀ b ∈ pre, idlePrefix i b)

include hidle

/-- A row whose bytes read no operand size. The side conditions hold by computation at each row. -/
theorem decode_idle_enc8 {op : Byte} {ops : List Byte} {reg : RegNum} {rm : RM} {imm : List Byte} {j : Instr} {n : Nat}
    {kind : AccessKind} {dflt : Size} (hwf : rm.wf = true) (hrow : ∀ osz, rowReads osz op ops reg rm imm j)
    (rest : List Byte) (hacc : ∀ s, dataAccess s i = rmAccess s rm n kind := by exact fun _ => rfl)
    (hscas : scasRow i = none := by rfl) (hstos : stosRow i = none := by rfl) (hop : op ∉ prefixBytes := by decide) :
    decode dflt (pre ++ enc8 dflt (op :: ops) reg rm imm ++ rest) = .ok (j, rest) :=
  decode_enc8 (idle_sizeSeg hidle) (leavesOperand_of_idle hidle hacc hscas hstos) hwf hop (hrow _) rest

/-- A row of one operand size. -/
theorem decode_idle_encW {osz : Size} {op : Byte} {ops : List Byte} {reg : RegNum} {rm : RM} {imm : List Byte} {j : Instr}
    {n : Nat} {kind : AccessKind} {dflt : Size} (hwf : rm.wf = true) (hrow : rowReads osz op ops reg rm imm j)
    (rest : List Byte) (hacc : ∀ s, dataAccess s i = rmAccess s rm n kind := by exact fun _ => rfl)
    (hscas : scasRow i = none := by rfl) (hstos : stosRow i = none := by rfl) (hop : op ∉ prefixBytes := by decide)
    (h66 : ¬ opsizeIdle i := by
      simp [opsizeIdle, noOperand, setccRow, byteRow, shiftRow, subRow, scasRow, stosRow]) :
    decode dflt (pre ++ encW dflt osz (op :: ops) reg rm imm ++ rest) = .ok (j, rest) :=
  decode_encW (idle_sizeSeg hidle) (opsize_not_mem_of_idle hidle h66)
    (leavesOperand_of_idle hidle hacc hscas hstos) hwf hop hrow rest

end

section
variable {i : Instr} (hwf : i.wf = true) {pre : List Byte} (hidle : ∀ b ∈ pre, idlePrefix i b) (dflt : Size)
  (rest : List Byte)

include hwf hidle

/-- SAL, SAR, SHL, SHR: the groups C0, C1 and D0 to D3. -/
theorem decode_idle_shiftRow {r : ShiftRow} (h : shiftRow i = some r) :
    decode dflt (pre ++ encode dflt i ++ rest) = .ok (i.canon, rest) := by
  cases i with
  | salRm8One dst | salRm8Cl dst | salRm8Imm8 dst imm | sarRm8One dst | sarRm8Cl dst | sarRm8Imm8 dst imm
  | shlRm8One dst | shlRm8Cl dst | shlRm8Imm8 dst imm | shrRm8One dst | shrRm8Cl dst | shrRm8Imm8 dst imm =>
    exact decode_idle_enc8 hidle hwf (fun _ => rowReads_group) rest
  | salRm16One dst | salRm16Cl dst | salRm16Imm8 dst imm | salRm32One dst | salRm32Cl dst | salRm32Imm8 dst imm
  | sarRm16One dst | sarRm16Cl dst | sarRm16Imm8 dst imm | sarRm32One dst | sarRm32Cl dst | sarRm32Imm8 dst imm
  | shlRm16One dst | shlRm16Cl dst | shlRm16Imm8 dst imm | shlRm32One dst | shlRm32Cl dst | shlRm32Imm8 dst imm
  | shrRm16One dst | shrRm16Cl dst | shrRm16Imm8 dst imm | shrRm32One dst | shrRm32Cl dst | shrRm32Imm8 dst imm =>
    exact decode_idle_encW hidle hwf rowReads_group rest
  | _ => nomatch h

/-- SETcc: 0F 90 to 0F 9F, whatever the reg field. -/
theorem decode_idle_setccRow {r : Nat × RM} (h : setccRow i = some r) :
    decode dflt (pre ++ encode dflt i ++ rest) = .ok (i.canon, rest) := by
  cases i with
  | seta dst | setae dst | setb dst | setbe dst | setc dst | sete dst | setg dst | setge dst | setl dst | setle dst
  | setna dst | setnae dst | setnb dst | setnbe dst | setnc dst | setne dst | setng dst | setnge dst | setnl dst
  | setnle dst | setno dst | setnp dst | setns dst | setnz dst | seto dst | setp dst | setpe dst | setpo dst
  | sets dst | setz dst =>
    exact decode_idle_enc8 hidle hwf (fun _ => rowReads_operand (fun _ _ _ => rfl)) rest
  | _ => nomatch h

/-- SBB and SUB: the groups 80, 81, 83, the accumulator rows and the rows of two operands. -/
theorem decode_idle_subRow {r : SubRow} (h : subRow i = some r) :
    decode dflt (pre ++ encode dflt i ++ rest) = .ok (i.canon, rest) := by
  have hrun := idle_sizeSeg hidle
  cases i with
  | sbbAlImm8 imm | subAlImm8 imm => exact decode_plain hrun (by decide) (fun _ _ _ => rfl) dflt
  | sbbAxImm16 imm | subAxImm16 imm =>
    have h66 := opsize_not_mem_of_idle hidle
    exact decode_acc16 hrun h66 (by decide) (fun _ _ _ => rfl) imm dflt rest
  | sbbEaxImm32 imm | subEaxImm32 imm =>
    have h66 := opsize_not_mem_of_idle hidle
    exact decode_acc32 hrun h66 (by decide) (fun _ _ _ => rfl) imm dflt rest
  | sbbRm8Imm8 dst imm | subRm8Imm8 dst imm =>
    exact decode_idle_enc8 hidle hwf (fun _ => rowReads_group) rest
  | sbbRm16Imm8 dst imm | sbbRm32Imm8 dst imm | subRm16Imm8 dst imm | subRm32Imm8 dst imm =>
    exact decode_idle_encW hidle hwf rowReads_group rest
  | sbbRm16Imm16 dst imm | subRm16Imm16 dst imm =>
    exact decode_idle_encW hidle hwf (rowReads_group (hk := thenIwd_s16 _ _ _ imm)) rest
  | sbbRm32Imm32 dst imm | subRm32Imm32 dst imm =>
    exact decode_idle_encW hidle hwf (rowReads_group (hk := thenIwd_s32 _ _ _ imm)) rest
  | sbbRm8R8 dst src =>
    exact decode_idle_enc8 hidle hwf (fun _ => rowReads_modRM fun n => done (Instr.sbbRm8R8 · n)) rest
  | sbbR8Rm8 dst src =>
    exact decode_idle_enc8 hidle hwf (fun _ => rowReads_modRM fun n => done (Instr.sbbR8Rm8 n)) rest
  | sbbRm16R16 dst src =>
    exact decode_idle_encW hidle hwf (rowReads_modRM fun n => done (Instr.sbbRm16R16 · n)) rest
  | sbbR16Rm16 dst src =>
    exact decode_idle_encW hidle hwf (rowReads_modRM fun n => done (Instr.sbbR16Rm16 n)) rest
  | sbbRm32R32 dst src =>
    exact decode_idle_encW hidle hwf (rowReads_modRM fun n => done (Instr.sbbRm32R32 · n)) rest
  | sbbR32Rm32 dst src =>
    exact decode_idle_encW hidle hwf (rowReads_modRM fun n => done (Instr.sbbR32Rm32 n)) rest
  | subRm8R8 dst src =>
    exact decode_idle_enc8 hidle hwf (fun _ => rowReads_modRM fun n => done (Instr.subRm8R8 · n)) rest
  | subR8Rm8 dst src =>
    exact decode_idle_enc8 hidle hwf (fun _ => rowReads_modRM fun n => done (Instr.subR8Rm8 n)) rest
  | subRm16R16 dst src =>
    exact decode_idle_encW hidle hwf (rowReads_modRM fun n => done (Instr.subRm16R16 · n)) rest
  | subR16Rm16 dst src =>
    exact decode_idle_encW hidle hwf (rowReads_modRM fun n => done (Instr.subR16Rm16 n)) rest
  | subRm32R32 dst src =>
    exact decode_idle_encW hidle hwf (rowReads_modRM fun n => done (Instr.subRm32R32 · n)) rest
  | subR32Rm32 dst src =>
    exact decode_idle_encW hidle hwf (rowReads_modRM fun n => done (Instr.subR32Rm32 n)) rest
  | _ => nomatch h

/-- SHLD and SHRD: 0F A4, A5, AC, AD. -/
theorem decode_idle_dshiftRow {r : DoubleShiftRow} (h : dshiftRow i = some r) :
    decode dflt (pre ++ encode dflt i ++ rest) = .ok (i.canon, rest) := by
  cases i with
  | shldRm16R16Imm8 dst src imm =>
    exact decode_idle_encW hidle hwf (rowReads_modRM fun n => thenIb (Instr.shldRm16R16Imm8 · n)) rest
  | shldRm16R16Cl dst src =>
    exact decode_idle_encW hidle hwf (rowReads_modRM fun n => done (Instr.shldRm16R16Cl · n)) rest
  | shldRm32R32Imm8 dst src imm =>
    exact decode_idle_encW hidle hwf (rowReads_modRM fun n => thenIb (Instr.shldRm32R32Imm8 · n)) rest
  | shldRm32R32Cl dst src =>
    exact decode_idle_encW hidle hwf (rowReads_modRM fun n => done (Instr.shldRm32R32Cl · n)) rest
  | shrdRm16R16Imm8 dst src imm =>
    exact decode_idle_encW hidle hwf (rowReads_modRM fun n => thenIb (Instr.shrdRm16R16Imm8 · n)) rest
  | shrdRm16R16Cl dst src =>
    exact decode_idle_encW hidle hwf (rowReads_modRM fun n => done (Instr.shrdRm16R16Cl · n)) rest
  | shrdRm32R32Imm8 dst src imm =>
    exact decode_idle_encW hidle hwf (rowReads_modRM fun n => thenIb (Instr.shrdRm32R32Imm8 · n)) rest
  | shrdRm32R32Cl dst src =>
    exact decode_idle_encW hidle hwf (rowReads_modRM fun n => done (Instr.shrdRm32R32Cl · n)) rest
  | _ => nomatch h

/-- SCAS and STOS, whose bytes read the address size and no override (D13). -/
theorem decode_idle_stringRow (h : stringRow i) : decode dflt (pre ++ encode dflt i ++ rest) = .ok (i.canon, rest) := by
  have hrun := idle_sizeSeg hidle
  cases i with
  | scasM8 asz | scasb asz | stosM8 asz | stosb asz =>
    exact decode_string hrun (addrsize_not_mem_of_idle hidle (s := .reset) nofun) (by decide) (fun _ => rfl)
  | scasM16 asz | scasM32 asz | scasw asz | scasd asz | stosM16 asz | stosM32 asz | stosw asz | stosd asz =>
    have h66 := opsize_not_mem_of_idle hidle
    exact decode_stringW hrun h66 (addrsize_not_mem_of_idle hidle (s := .reset) nofun) (by decide) (fun _ => rfl)
  | _ => exact absurd h (not_or.mpr ⟨nofun, nofun⟩)

end

/-- The digits of 0F 00 (R113). -/
def group0F00 (osz : Size) (digit : RegNum) : Option (RM → List Byte → Decoded) :=
  match digit.toNat with
  | 0 => some (done (osz.pick Instr.sldtRm16 Instr.sldtRm32))
  | 1 => some (done (Instr.strRm16 osz))
  | _ => none

/-- The digits of 0F 01 (R113). -/
def group0F01 (osz : Size) (digit : RegNum) : Option (RM → List Byte → Decoded) :=
  match digit.toNat with
  | 0 => some (done (Instr.sgdt osz))
  | 1 => some (done (Instr.sidt osz))
  | 4 => some (done (osz.pick Instr.smswRm16 Instr.smswR32M16))
  | _ => none

theorem decodeOpcode_0F00 (osz asz : Size) (seg : Option SegName) (t : List Byte) :
    decodeOpcode osz asz seg 0x0F#8 (0x00#8 :: t) = withGroup asz seg t (group0F00 osz) := rfl

theorem decodeOpcode_0F01 (osz asz : Size) (seg : Option SegName) (t : List Byte) :
    decodeOpcode osz asz seg 0x0F#8 (0x01#8 :: t) = withGroup asz seg t (group0F01 osz) := rfl

/-- Bytes with nothing to act on in a well-formed instruction, then its encoding, decode to its canonical spelling. -/
theorem decode_idle_encode {i : Instr} (hwf : i.wf = true) {pre : List Byte} (hidle : ∀ b ∈ pre, idlePrefix i b)
    (dflt : Size) (rest : List Byte) : decode dflt (pre ++ encode dflt i ++ rest) = .ok (i.canon, rest) := by
  have hrun := idle_sizeSeg hidle
  rcases instr_families i with h | h | h | h | h | h | h
  · exact decode_idle_shiftRow hwf hidle dflt rest (Option.some_get h).symm
  · exact decode_idle_dshiftRow hwf hidle dflt rest (Option.some_get h).symm
  · exact decode_idle_subRow hwf hidle dflt rest (Option.some_get h).symm
  · exact decode_idle_stringRow hwf hidle dflt rest (.inl h)
  · exact decode_idle_stringRow hwf hidle dflt rest (.inr h)
  · exact decode_idle_setccRow hwf hidle dflt rest (Option.some_get h).symm
  · rcases h with rfl | rfl | rfl | rfl | rfl | rfl | ⟨osz, dst, rfl⟩ | ⟨osz, dst, rfl⟩ | ⟨dst, rfl⟩ | ⟨dst, rfl⟩ |
      ⟨dst, rfl⟩ | ⟨dst, rfl⟩ | ⟨osz, dst, rfl⟩
    -- SAHF, STC, STD, STI, SYSENTER and SYSEXIT have no operand.
    iterate 6 exact decode_plain hrun (by decide) (fun _ _ _ => rfl) dflt
    -- SGDT and SIDT, SLDT, SMSW, STR.
    iterate 2 exact decode_idle_encW hidle hwf (rowReads_group (fun _ _ _ => decodeOpcode_0F01 ..)) rest
    iterate 2 exact decode_idle_encW hidle hwf (rowReads_group (fun _ _ _ => decodeOpcode_0F00 ..)) rest
    iterate 2 exact decode_idle_encW hidle hwf (rowReads_group (fun _ _ _ => decodeOpcode_0F01 ..)) rest
    exact decode_idle_encW hidle hwf (rowReads_group (fun _ _ _ => decodeOpcode_0F00 ..)) rest

/-- Settles O1: the encoding of an instruction after an empty run. -/
theorem decodeEncode : Obligations.DecodeEncode := fun dflt _ rest hwf =>
  decode_idle_encode hwf (pre := []) nofun dflt rest

/-- Settles O4: idle bytes before an encoding, and bytes that stand in a run of prefix bytes again. -/
theorem ignoredPrefixes : Obligations.IgnoredPrefixes :=
  ⟨fun dflt _ _ rest hwf hidle => decode_idle_encode hwf hidle dflt rest,
    fun dflt _ _ rest hpre hb => decode_cons_of_mem hpre hb dflt rest⟩

/-! ## Bytes outside the tables (R112, R113, R117) -/

/-- A byte is on a list that its value is on. -/
theorem mem_of_toNat_eq {op : Byte} {n : Nat} {l : List Byte} (h : op.toNat = n) (hn : BitVec.ofNat 8 n ∈ l) : op ∈ l := by
  rwa [← h, BitVec.ofNat_toNat, BitVec.setWidth_eq] at hn

section
variable {digit : RegNum}

theorem shiftGroup_none (shl shr sar : RM → List Byte → Decoded) (h : digit.toNat ∉ [4, 5, 7]) :
    shiftGroup shl shr sar digit = none := by
  unfold shiftGroup
  split <;> simp_all

theorem subGroup_none (sbb sub : RM → List Byte → Decoded) (h : digit.toNat ∉ [3, 5]) :
    subGroup sbb sub digit = none := by
  unfold subGroup
  split <;> simp_all

theorem group0F00_none (osz : Size) (h : digit.toNat ∉ [0, 1]) : group0F00 osz digit = none := by
  unfold group0F00
  split <;> simp_all

theorem group0F01_none (osz : Size) (h : digit.toNat ∉ [0, 1, 4]) : group0F01 osz digit = none := by
  unfold group0F01
  split <;> simp_all

end

section
variable (osz asz : Size) (seg : Option SegName)

theorem decodeOpcode_of_not_mem {op : Byte} (hop : op ∉ oneByteOpcodes) (hesc : op ≠ 0x0F#8) (bs : List Byte) :
    decodeOpcode osz asz seg op bs = .error .notInScope := by
  unfold decodeOpcode
  split
  case h_1 h => exact absurd (BitVec.eq_of_toNat_eq h) hesc
  case h_31 => rfl
  all_goals
    rename_i h
    exact absurd (mem_of_toNat_eq h (by decide)) hop

theorem decodeTwoByte_of_not_mem {op : Byte} (hop : op ∉ twoByteOpcodes) (bs : List Byte) :
    decodeTwoByte osz asz seg op bs = .error .notInScope := by
  unfold decodeTwoByte
  split
  case h_25 => rfl
  all_goals
    rename_i h
    exact absurd (mem_of_toNat_eq h (by decide)) hop

theorem withGroup_none {m : Byte} {rows : RegNum → Option (RM → List Byte → Decoded)} (h : rows (regField m) = none)
    (t : List Byte) : withGroup asz seg (m :: t) rows = .error .notInScope := by
  rw [withGroup, take8_cons, h]

end

/-- Bytes outside the tables begin with an opcode byte after which decoding stops. -/
theorem decodeOpcode_outsideTables {bs : List Byte} (h : outsideTables bs) :
    ∃ op ops, bs = op :: ops ∧ op ∉ prefixBytes ∧
      ∀ osz asz seg t, decodeOpcode osz asz seg op (ops ++ t) = .error .notInScope := by
  rcases h with ⟨op, rfl, hpre, hop, hesc⟩ | ⟨op, rfl, hop⟩ | ⟨op, m, rfl, hop, hm⟩ | ⟨op, m, rfl, hop, hm⟩ |
    ⟨m, rfl, hm⟩ | ⟨m, rfl, hm⟩
  · exact ⟨op, [], rfl, hpre, fun osz asz seg t => decodeOpcode_of_not_mem osz asz seg hop hesc t⟩
  · exact ⟨0x0F#8, [op], rfl, by decide, fun osz asz seg t => decodeTwoByte_of_not_mem osz asz seg hop t⟩
  · have hnone := fun sbb sub => subGroup_none sbb sub hm
    simp only [List.mem_cons, List.not_mem_nil, or_false] at hop
    rcases hop with rfl | rfl | rfl
    all_goals exact ⟨_, [m], rfl, by decide, fun osz asz seg t => withGroup_none asz seg (hnone _ _) t⟩
  · have hnone := fun shl shr sar => shiftGroup_none shl shr sar hm
    simp only [List.mem_cons, List.not_mem_nil, or_false] at hop
    rcases hop with rfl | rfl | rfl | rfl | rfl | rfl
    all_goals exact ⟨_, [m], rfl, by decide, fun osz asz seg t => withGroup_none asz seg (hnone _ _ _) t⟩
  · exact ⟨0x0F#8, [0x00#8, m], rfl, by decide, fun osz asz seg t =>
      (decodeOpcode_0F00 osz asz seg (m :: t)).trans (withGroup_none asz seg (group0F00_none osz hm) t)⟩
  · exact ⟨0x0F#8, [0x01#8, m], rfl, by decide, fun osz asz seg t =>
      (decodeOpcode_0F01 osz asz seg (m :: t)).trans (withGroup_none asz seg (group0F01_none osz hm) t)⟩

/-! ## The step on the bytes at CS:EIP (R118, R119; 60_exceptions.md R453) -/

namespace Machine

theorem fetchBytes_eq_append {s : State} {bs : List Byte} {k : Nat} (n : Nat)
    (hat : ∀ j, (h : j < bs.length) → s.byteAt ((codeLoc s).lin s (k + j)) = bs[j])
    (hin : ∀ j, j < bs.length → outsideLimit s.mode s.cs s.eip.toNat (k + j + 1) = false) :
    fetchBytes s (bs.length + n) k = bs ++ fetchBytes s n (k + bs.length) := by
  induction bs generalizing k with
  | nil => simp
  | cons b bs ih =>
    have hb : s.byteAt ((codeLoc s).lin s k) = b := hat 0 (Nat.zero_lt_succ _)
    have hk : outsideLimit s.mode s.cs s.eip.toNat (k + 1) = false := hin 0 (Nat.zero_lt_succ _)
    have htail := ih (k := k + 1)
      (fun j h => by rw [Nat.add_assoc, Nat.add_comm 1]; exact hat (j + 1) (Nat.succ_lt_succ h))
      (fun j h => by rw [Nat.add_assoc k, Nat.add_comm 1]; exact hin (j + 1) (Nat.succ_lt_succ h))
    rw [List.length_cons, Nat.add_right_comm, fetchBytes, hk, hb, htail]
    simp [Nat.add_assoc, Nat.add_comm 1]

/-- At most fifteen bytes that lie at CS:EIP inside the CS limit begin what decoding sees. -/
theorem fetchWindow_of_codeAt {s : State} {bs : List Byte} (hlen : bs.length ≤ 15) (hat : codeAt s bs)
    (hin : codeInside s bs.length) : fetchWindow s = bs ++ fetchBytes s (15 - bs.length) bs.length := by
  have h := fetchBytes_eq_append (k := 0) (15 - bs.length) (by simpa [codeAt] using hat) (by simpa [codeInside] using hin)
  rwa [Nat.add_sub_cancel' hlen, Nat.zero_add] at h

theorem step_of_quiet {s : State} (hq : quiet s) : step s = fetchExecute (passBoundary s) := by
  rw [step, recognized_of_quiet hq]

/-- Bytes that decoding refuses by name refuse the step. -/
theorem step_of_decode_error {s : State} (hq : quiet s) {e : DecodeStop} (he : e ≠ .truncated)
    (hd : decode (codeSize (passBoundary s)) (fetchWindow (passBoundary s)) = .error e) :
    step s = .refused (decodeRefusal e) := by
  have hf : fetch (passBoundary s) = .refused (decodeRefusal e) := by
    unfold fetch
    rw [hd]
    cases e with
    | truncated => exact absurd rfl he
    | _ => rfl
  rw [step_of_quiet hq, fetchExecute, hf]

/-- Settles O3: the run decides what decoding answers, and the step on these bytes is what decoding answers. -/
theorem lockAndRepRefused : Obligations.LockAndRepRefused := by
  intro pre op hpre hop
  have hlock : ∀ (dflt : Size) (rest : List Byte), 0xF0#8 ∈ pre →
      decode dflt (pre ++ op :: rest) = .error .lockPrefix := fun dflt rest h => by
    rw [decode_run hpre hop, if_pos h]
  have hrep : ∀ (dflt : Size) (rest : List Byte), 0xF0#8 ∉ pre → (0xF2#8 ∈ pre ∨ 0xF3#8 ∈ pre) →
      decode dflt (pre ++ op :: rest) = .error .repPrefix := fun dflt rest h h' => by
    rw [decode_run hpre hop, if_neg h, if_pos h']
  refine ⟨fun dflt rest => ⟨hlock dflt rest, hrep dflt rest⟩, ?_⟩
  intro s hq u hlen hat hin
  have hlen' : (pre ++ [op]).length = pre.length + 1 := List.length_append
  obtain ⟨rest, hwin⟩ : ∃ rest, fetchWindow u = pre ++ op :: rest :=
    ⟨_, by rw [fetchWindow_of_codeAt (by omega) hat (hlen' ▸ hin), List.append_assoc]; rfl⟩
  exact ⟨fun h => step_of_decode_error (e := .lockPrefix) hq (by decide) (hwin ▸ hlock _ rest h),
    fun h h' => step_of_decode_error (e := .repPrefix) hq (by decide) (hwin ▸ hrep _ rest h h')⟩

/-- Settles O5: size and segment bytes select the tables' inputs, and the tables have no row for the bytes after them. -/
theorem outOfScopeRefused : Obligations.OutOfScopeRefused := by
  intro pre bs hpre hout
  have hd : ∀ (dflt : Size) (rest : List Byte), decode dflt (pre ++ bs ++ rest) = .error .notInScope := fun dflt rest => by
    obtain ⟨op, ops, rfl, hop, herr⟩ := decodeOpcode_outsideTables hout
    rw [List.append_assoc, List.cons_append, decode_sizeSeg hpre hop, herr]
  refine ⟨hd, ?_⟩
  intro s hq u hlen hat hin
  have hwin := fetchWindow_of_codeAt hlen hat hin
  exact step_of_decode_error (e := .notInScope) hq (by decide) (hwin ▸ hd _ _)

/-- The first `n` bytes at CS:EIP. -/
def codeBytes (s : State) (n : Nat) : List Byte := (List.range n).map fun k => s.byteAt ((codeLoc s).lin s k)

@[simp] theorem codeBytes_length (s : State) (n : Nat) : (codeBytes s n).length = n := by simp [codeBytes]

theorem codeAt_codeBytes (s : State) (n : Nat) : codeAt s (codeBytes s n) := fun k h => by simp [codeBytes]

/-- Fifteen bytes inside the CS limit are all that decoding sees. -/
theorem fetchWindow_of_codeInside {s : State} (hin : codeInside s 15) : fetchWindow s = codeBytes s 15 := by
  have hlen := codeBytes_length s 15
  rw [fetchWindow_of_codeAt hlen.le (codeAt_codeBytes s 15) (hlen.symm ▸ hin), hlen]
  exact List.append_nil _

/-- Settles O13: decoding sees fifteen prefix bytes and is cut short. -/
theorem tooLongInstruction : Obligations.TooLongInstruction := by
  intro s hq u hin hpre
  have hwin := fetchWindow_of_codeInside hin
  have hall : ∀ b ∈ codeBytes u 15, b ∈ prefixBytes := fun b hb => by
    obtain ⟨k, hk, rfl⟩ := List.mem_map.mp hb
    exact hpre k (List.mem_range.mp hk)
  have hfetch : fetch u = fetchShort u := by
    unfold fetch
    rw [hwin, decode_prefixes_only hall]
  have hfull : ¬ (fetchWindow u).length < maxLength := by rw [hwin, codeBytes_length]; exact lt_irrefl 15
  rw [step_of_quiet hq]
  change fetchExecute u = _
  rw [fetchExecute, hfetch, fetchShort, if_neg hfull]
  cases u.cfg.procGen.has32 <;> rfl

/-! ## The step on an encoding -/

/-- Settles O6: the arms of two spellings are calls of one meaning with one set of operands. -/
theorem aliasesExecuteAlike : Obligations.AliasesExecuteAlike := by
  intro i s
  cases i <;> rfl

/-- Every encoding has 1 to 14 bytes (R118). -/
theorem encode_length (i : Instr) : Laws.EncodedLength.Statement i := by
  intro dflt
  have h16 := Laws.os_bytes_length dflt .s16
  have h32 := Laws.os_bytes_length dflt .s32
  cases i with
  | sahf | stc | std | sti | sysenter | sysexit | sbbAlImm8 imm | subAlImm8 imm => simp [encode]
  | sbbAxImm16 imm | sbbEaxImm32 imm | subAxImm16 imm | subEaxImm32 imm =>
    simp only [encode, le16, le32, List.length_append, List.length_cons, List.length_nil]
    omega
  | scasM8 asz | scasM16 asz | scasM32 asz | scasb asz | scasw asz | scasd asz
  | stosM8 asz | stosM16 asz | stosM32 asz | stosb asz | stosw asz | stosd asz =>
    have hasz := Laws.as_bytes_length dflt asz
    simp only [encode, List.length_append, List.length_cons, List.length_nil]
    omega
  | _ => first
    | exact Laws.enc8_ok _ _ _ _ _ (by simp)
    | exact Laws.encW_ok _ _ _ _ _ _ (by simp [le16, le32])

/-- Settles O8: the encoding begins what decoding sees, decodes to the canonical spelling, and that spelling executes as the
instruction does. -/
theorem encodedInstructionRuns : Obligations.EncodedInstructionRuns := by
  intro s i hwf hq u bs hat hin hp
  have hlen : bs.length ≤ 15 := (encode_length i (codeSize u)).2.trans (by omega)
  have hwin := fetchWindow_of_codeAt hlen hat hin
  have hd : decode (codeSize u) (fetchWindow u) = .ok (i.canon, fetchBytes u (15 - bs.length) bs.length) := by
    rw [hwin]
    exact decodeEncode (codeSize u) i _ hwf
  have hused : (fetchWindow u).length - (fetchBytes u (15 - bs.length) bs.length).length = bs.length := by
    rw [hwin, List.length_append, Nat.add_sub_cancel]
  have hstep := (stepRunsDecoded s i.canon _ hq hd (hused.symm ▸ hp)).1
  rw [hstep, aliasesExecuteAlike]
  exact congrArg (fun n => exec i (afterFetch u n)) hused

end Machine

/-! ## Effective addresses (R101 to R103) -/

namespace Machine

theorem ofInt_toNat {w : Nat} (x : BitVec w) : BitVec.ofInt w x.toNat = x := by
  rw [BitVec.ofInt_natCast, BitVec.ofNat_toNat, BitVec.setWidth_eq]

theorem ofInt_reg16 (s : State) (n : RegNum) : BitVec.ofInt 16 ((s.reg32 n).toNat % 65536 : Int) = s.reg16 n := by
  have h := ofInt_toNat (s.reg16 n)
  rw [State.reg16, readReg_w16_toNat] at h
  exact h

/-- The register sum of R102, without a displacement. -/
theorem base16Value_eq_ofInt (s : State) (b : Base16) : base16Value s b = BitVec.ofInt 16 (sum16 s (.base b .none)) := by
  cases b <;> simp [base16Value, sum16, BitVec.ofInt_add, ofInt_reg16]

/-- The address of R102 is its sum at 16 bits: each term of the sum is a term of the address. -/
theorem ea16_eq_ofInt (s : State) (a : Addr16) : ea16 s a = BitVec.ofInt 16 (sum16 s a) := by
  cases a with
  | direct d => exact (ofInt_toNat d).symm
  | base b d =>
    rw [ea16, base16Value_eq_ofInt]
    cases d <;> simp [sum16, disp16Value, BitVec.ofInt_add, BitVec.signExtend]

theorem ofInt_shift (x : Word32) (k : Nat) : BitVec.ofInt 32 (x.toNat * 2 ^ k) = x <<< k := by
  apply BitVec.eq_of_toNat_eq
  rw [BitVec.toNat_shiftLeft, Nat.shiftLeft_eq]
  exact_mod_cast congrArg BitVec.toNat (BitVec.ofInt_natCast 32 (x.toNat * 2 ^ k))

theorem scaledIndex_eq_ofInt (s : State) (scale : BitVec 2) (index : Option RegNum) :
    scaledIndex s scale index = BitVec.ofInt 32 (indexTerm s scale index) := by
  cases index with
  | none => rfl
  | some n => exact (ofInt_shift (s.reg32 n) scale.toNat).symm

theorem ea32_eq_ofInt (s : State) (a : Addr32) : ea32 s a = BitVec.ofInt 32 (sum32 s a) := by
  cases a with
  | direct d => exact (ofInt_toNat d).symm
  | base b d => cases d <;> simp [ea32, sum32, disp32Value, BitVec.ofInt_add, BitVec.signExtend]
  | sib scale index b d =>
    cases d <;> simp [ea32, sum32, disp32Value, BitVec.ofInt_add, scaledIndex_eq_ofInt, BitVec.signExtend]
  | sibNoBase scale index d => simp [ea32, sum32, BitVec.ofInt_add, scaledIndex_eq_ofInt, BitVec.add_comm]

theorem toNat_ofInt_mod (w : Nat) (z : Int) : ((BitVec.ofInt w z).toNat : Int) = z % 2 ^ w := by
  rw [BitVec.toNat_ofInt, Int.toNat_of_nonneg (Int.emod_nonneg _ (by positivity))]
  norm_cast

theorem stackBased_iff (ea : EffAddr) : stackBased ea ↔ defaultSeg ea = .ss := by
  cases ea with
  | a16 a =>
    cases a with
    | base b d => cases b <;> simp [stackBased, defaultSeg, defaultSeg16]
    | direct d => simp [stackBased, defaultSeg, defaultSeg16]
  | a32 a => cases a <;> simp [stackBased, defaultSeg, defaultSeg32, BitVec.toNat_eq, or_iff_not_imp_left]

theorem defaultSeg_ss_or_ds (ea : EffAddr) : defaultSeg ea = .ss ∨ defaultSeg ea = .ds := by
  cases ea with
  | a16 a =>
    cases a with
    | base b d => cases b <;> simp [defaultSeg, defaultSeg16]
    | direct d => exact .inr rfl
  | a32 a =>
    cases a with
    | base b d => exact ite_eq_or_eq _ _ _
    | direct d => exact .inr rfl
    | sib scale index b d => exact ite_eq_or_eq _ _ _
    | sibNoBase scale index d => exact .inr rfl

/-- Settles O20: each form's address is its sum at the address size, and its default segment is SS where it is stack based. -/
theorem effectiveAddresses : Obligations.EffectiveAddresses := by
  intro s m
  refine ⟨fun a ha => ?_, fun a ha => ?_, fun o ho => ?_, fun ho hs => ?_, fun ho hs => ?_⟩
  · have hoff : (memLoc m s).off = (ea16 s a).setWidth 32 := by rw [memLoc, ha]; rfl
    rw [hoff, BitVec.toNat_setWidth_of_le (by decide), ea16_eq_ofInt]
    exact toNat_ofInt_mod 16 (sum16 s a)
  · have hoff : (memLoc m s).off = ea32 s a := by rw [memLoc, ha]; rfl
    rw [hoff, ea32_eq_ofInt]
    exact toNat_ofInt_mod 32 (sum32 s a)
  · rw [memLoc, ho]; rfl
  · rw [memLoc, ho]; exact (stackBased_iff m.ea).mp hs
  · rw [memLoc, ho]; exact (defaultSeg_ss_or_ds m.ea).resolve_left fun h => hs ((stackBased_iff m.ea).mpr h)

/-! ## #UD (R115; 60_exceptions.md R445) -/

theorem storeTable_reg_ud {s : State} (h : s.cfg.procGen ≠ .i8086) (r : TableReg) (osz : Size) (n : RegNum) :
    storeTable r osz (.reg n) s = raise .ud := if_neg h

theorem protectedOnly_ud {s : State} (h : s.mode ≠ .protectedMode) (go : Result) : protectedOnly s go = raise .ud := if_neg h

/-- Settles O44: the check of the operand form and the check of the mode come before the operand access. -/
theorem undefinedOpcodes : Obligations.UndefinedOpcodes := fun s osz n _ =>
  ⟨fun h => ⟨storeTable_reg_ud h s.gdtr osz n, storeTable_reg_ud h s.idtr osz n⟩,
    fun h => ⟨protectedOnly_ud h _, protectedOnly_ud h _, fun h32 =>
      (need32_pass fun _ => h32).trans (protectedOnly_ud h _)⟩⟩

end Machine

end Sys2Proof
end

section
/-! PROOFS. The family 40_sahf.md: what SAHF makes of EFLAGS (R130 to R132, R134), and the byte sequences that the spec
prints as examples. -/

namespace Sys2Proof.Machine

open Ref

/-! ## Completion with other flags alone -/

theorem completes_withFlags (s : State) (f : Eflags) : completes s ((s.withFlags f).withIntShadow false) := by
  simp [completes, systemKept, ringKept]

theorem regsKept_withFlags (s : State) (f : Eflags) : regsKept s ((s.withFlags f).withIntShadow false) :=
  fun _ => rfl

theorem memKept_withFlags (s : State) (f : Eflags) : memKept s ((s.withFlags f).withIntShadow false) :=
  fun _ => rfl

/-! ## SAHF -/

/-- `GPR8[4]` is AH, bits 15:8 of EAX (R22). -/
theorem readReg_ah (s : State) : s.readReg .w8 4#3 = (s.reg32 0#3).extractLsb' 8 8 := rfl

/-- The five flags of AH and the constants of bits 1, 3 and 5 (R37): D5h keeps the former, 02h is the latter. -/
theorem sahfFlags_low (f : Eflags) (ah : Byte) :
    (sahfFlags f ah).toWord.extractLsb' 0 8 = (ah &&& 0xD5#8) ||| 0x02#8 := by
  apply BitVec.eq_of_getLsbD_eq
  intro i hi
  rw [BitVec.getLsbD_extractLsb', Eflags.toWord_getLsbD]
  interval_cases i <;> simp [sahfFlags]

theorem sahfFlags_high (f : Eflags) (ah : Byte) :
    (sahfFlags f ah).toWord.extractLsb' 8 24 = f.toWord.extractLsb' 8 24 := by
  apply BitVec.eq_of_getLsbD_eq
  intro i hi
  rw [BitVec.getLsbD_extractLsb', BitVec.getLsbD_extractLsb', Eflags.toWord_getLsbD, Eflags.toWord_getLsbD]
  interval_cases i <;> rfl

/-- Settles O37: SAHF completes with the flags of AH, whose word is known byte by byte. -/
theorem sahfCompletes : Obligations.SahfCompletes := fun s =>
  ⟨(s.withFlags (sahfFlags s.flags (s.readReg .w8 4#3))).withIntShadow false, rfl,
    completes_withFlags s _, regsKept_withFlags s _, memKept_withFlags s _,
    readReg_ah s ▸ sahfFlags_low s.flags _, sahfFlags_high s.flags _⟩

/-! ## The spec's example words -/

/-- Bytes that the encoder writes in 32-bit code decode to the instruction, in the spelling of its opcode (R109). -/
theorem decode_of_encode_eq (i : Instr) {bs : List Byte} (henc : encode .s32 i = bs) (hwf : i.wf = true) :
    decode .s32 bs = .ok (i.canon, []) := by
  have h := decodeEncode .s32 i [] hwf
  rwa [List.append_nil, henc] at h

/-- Settles O2: each example is what the encoder writes for the instruction its rule names, SAL (R150) among them. -/
theorem specWordsDecode : Obligations.SpecWordsDecode :=
  ⟨decode_of_encode_eq .sahf rfl rfl,
    decode_of_encode_eq (.salRm8One (.reg 3#3)) rfl rfl,
    decode_of_encode_eq (.sbbRm16Imm16 (.reg 3#3) 0x1234#16) rfl rfl,
    decode_of_encode_eq (.sbbRm16R16 (.reg 3#3) 2#3) rfl rfl,
    decode_of_encode_eq (.scasw .s16) rfl rfl,
    decode_of_encode_eq (.seta (.reg 3#3)) rfl rfl,
    decode_of_encode_eq (.sgdt .s32 (.mem ⟨.a32 (.base 3#3 .none), none⟩)) rfl rfl,
    decode_of_encode_eq (.shldRm32R32Imm8 (.reg 3#3) 2#3 1#8) rfl rfl,
    decode_of_encode_eq (.shrdRm16R16Imm8 (.reg 3#3) 2#3 4#8) rfl rfl,
    decode_of_encode_eq (.sldtRm16 (.reg 3#3)) rfl rfl,
    decode_of_encode_eq (.smswRm16 (.reg 3#3)) rfl rfl,
    decode_of_encode_eq .stc rfl rfl,
    decode_of_encode_eq .std rfl rfl,
    decode_of_encode_eq .sti rfl rfl,
    decode_of_encode_eq (.stosb .s32) rfl rfl,
    decode_of_encode_eq (.strRm16 .s32 (.reg 3#3)) rfl rfl,
    decode_of_encode_eq (.subRm32R32 (.reg 3#3) 2#3) rfl rfl,
    decode_of_encode_eq .sysenter rfl rfl,
    decode_of_encode_eq .sysexit rfl rfl⟩

end Sys2Proof.Machine
end

section
/-! PROOFS. The family 41_shift.md: the shifts as the source's loops and as closed forms (R143 to R145), and what each of the
thirty-six rows changes by a masked count of 1 or more (R146, R147) and of 0 (R148). -/

namespace Sys2Proof.Machine

open Ref

/-! ## The loops (R143 to R145) -/

section
variable {w : Nat}

theorem shiftResult_sar_toInt (d : BitVec w) (c : Nat) : (shiftResult .sar d c).toInt = d.toInt / 2 ^ c := by
  rw [shiftResult, BitVec.toInt_sshiftRight, Int.shiftRight_eq_div_pow]
  norm_cast

/-- One pass of the loop body is the shift by 1, with the bit it shifts out. -/
theorem shiftBody_eq_shift_one (hw : 0 < w) (op : ShiftOp) (d : BitVec w) :
    shiftBody op d = (shiftResult op d 1, shiftCarry op d 1) := by
  cases op with
  | shl =>
    have hd : BitVec.ofNat w (d.toNat * 2) = d <<< 1 :=
      BitVec.eq_of_toNat_eq (by simp [BitVec.toNat_shiftLeft, Nat.shiftLeft_eq])
    simp [shiftBody, shiftResult, shiftCarry, hd, Nat.succ_le_of_lt hw]
  | sar =>
    have hd : BitVec.ofInt w (d.toInt / 2) = shiftResult .sar d 1 := by
      rw [← BitVec.ofInt_toInt (x := shiftResult .sar d 1), shiftResult_sar_toInt, pow_one]
    simp [shiftBody, shiftCarry, hd, Nat.succ_le_of_lt hw]
  | shr =>
    have hd : BitVec.ofNat w (d.toNat / 2) = d >>> 1 :=
      BitVec.eq_of_toNat_eq (by
        rw [BitVec.toNat_ofNat, BitVec.toNat_ushiftRight, Nat.shiftRight_eq_div_pow, pow_one,
          Nat.mod_eq_of_lt (lt_of_le_of_lt (Nat.div_le_self ..) d.isLt)])
    simp [shiftBody, shiftResult, shiftCarry, hd]

theorem shiftResult_shift_one (op : ShiftOp) (d : BitVec w) (c : Nat) :
    shiftResult op (shiftResult op d 1) c = shiftResult op d (c + 1) := by
  cases op with
  | shl => rw [shiftResult, shiftResult, shiftResult, ← BitVec.shiftLeft_add, Nat.add_comm]
  | sar => rw [shiftResult, shiftResult, shiftResult, ← BitVec.sshiftRight_add, Nat.add_comm]
  | shr => rw [shiftResult, shiftResult, shiftResult, ← BitVec.shiftRight_add, Nat.add_comm]

/-- At the width itself SHL shifts out the 0 that the first shift left in bit 0, and SAR the sign it kept. -/
theorem shiftCarry_shift_one (op : ShiftOp) (d : BitVec w) {c : Nat} (hc : 1 ≤ c) :
    shiftCarry op (shiftResult op d 1) c = shiftCarry op d (c + 1) := by
  cases op with
  | shl =>
    simp only [shiftCarry, shiftResult, BitVec.getLsbD_shiftLeft]
    rcases lt_trichotomy c w with hlt | rfl | hgt
    · simp [hlt.le, Nat.succ_le_of_lt hlt, show ¬ w - c < 1 by omega, show w - c < w by omega,
        show w - c - 1 = w - (c + 1) by omega]
    · simp
    · simp [hgt.not_ge, show ¬ c + 1 ≤ w by omega]
  | sar =>
    simp only [shiftCarry, shiftResult, BitVec.getLsbD_sshiftRight, BitVec.msb_sshiftRight]
    rcases lt_trichotomy c w with hlt | rfl | hgt
    · simp [hlt.le, Nat.succ_le_of_lt hlt, show ¬ w ≤ c - 1 by omega, show 1 + (c - 1) = c by omega, hlt]
    · simp [show ¬ c ≤ c - 1 by omega, show 1 + (c - 1) = c by omega]
    · simp [hgt.not_ge, show ¬ c + 1 ≤ w by omega]
  | shr =>
    simp [shiftCarry, shiftResult, BitVec.getLsbD_ushiftRight, show 1 + (c - 1) = c by omega]

/-- The loop is the closed form, by induction on the passes after the first. -/
theorem shiftLoop_eq (hw : 0 < w) (op : ShiftOp) (d : BitVec w) (b : Bool) {c : Nat} (hc : 1 ≤ c) :
    shiftLoop op c (d, b) = (shiftResult op d c, shiftCarry op d c) := by
  induction c, hc using Nat.le_induction generalizing d b with
  | base => exact shiftBody_eq_shift_one hw op d
  | succ c hc ih =>
    rw [shiftLoop, shiftBody_eq_shift_one hw, ih, shiftResult_shift_one, shiftCarry_shift_one op d hc]

/-! ## The closed forms (R143 to R145) -/

theorem shiftResult_shl_toNat (d : BitVec w) (c : Nat) :
    (shiftResult .shl d c).toNat = d.toNat * 2 ^ c % 2 ^ w := by
  rw [shiftResult, BitVec.toNat_shiftLeft, Nat.shiftLeft_eq]

theorem shiftResult_shr_toNat (d : BitVec w) (c : Nat) : (shiftResult .shr d c).toNat = d.toNat / 2 ^ c := by
  rw [shiftResult, BitVec.toNat_ushiftRight, Nat.shiftRight_eq_div_pow]

theorem shiftResult_shl_of_width_le (d : BitVec w) {c : Nat} (h : w ≤ c) : (shiftResult .shl d c).toNat = 0 := by
  rw [shiftResult, BitVec.shiftLeft_eq_zero h, BitVec.toNat_zero]

theorem shiftResult_shr_of_width_le (d : BitVec w) {c : Nat} (h : w ≤ c) : (shiftResult .shr d c).toNat = 0 := by
  rw [shiftResult_shr_toNat, Nat.div_eq_of_lt (d.isLt.trans_le (Nat.pow_le_pow_right two_pos h))]

/-- From `w - 1` on only copies of the sign are left. -/
theorem shiftResult_sar_of_width_le (d : BitVec w) {c : Nat} (h : w - 1 ≤ c) :
    (shiftResult .sar d c).toInt = if d.getLsbD (w - 1) then -1 else 0 := by
  have hpow : (2 : Int) ^ (w - 1) ≤ 2 ^ c := pow_le_pow_right₀ (by decide) h
  have hlow := BitVec.le_toInt d
  have hhigh := BitVec.toInt_lt (x := d)
  rw [shiftResult_sar_toInt, ← BitVec.msb_eq_getLsbD_last]
  split
  · rename_i hneg
    have hd := BitVec.toInt_neg_of_msb_true hneg
    rw [Int.ediv_eq_iff_of_pos (by positivity)]
    omega
  · rename_i hpos
    exact Int.ediv_eq_zero_of_lt (BitVec.toInt_nonneg_of_msb_false (by simpa using hpos)) (by omega)

theorem shiftCarry_shl_of_le (d : BitVec w) {c : Nat} (h : c ≤ w) : shiftCarry .shl d c = d.getLsbD (w - c) := if_pos h

theorem shiftCarry_shl_of_lt (d : BitVec w) {c : Nat} (h : w < c) : shiftCarry .shl d c = false := if_neg h.not_ge

theorem shiftCarry_sar_of_le (d : BitVec w) {c : Nat} (h : c ≤ w) : shiftCarry .sar d c = d.getLsbD (c - 1) := if_pos h

theorem shiftCarry_sar_of_lt (d : BitVec w) {c : Nat} (h : w < c) : shiftCarry .sar d c = d.getLsbD (w - 1) :=
  (if_neg h.not_ge).trans (BitVec.msb_eq_getLsbD_last d)

theorem shiftCarry_shr_of_lt (d : BitVec w) {c : Nat} (h : w < c) : shiftCarry .shr d c = false :=
  BitVec.getLsbD_of_ge d (c - 1) (by omega)

end

theorem two_le_bits (w : Width) : 2 ≤ w.bits := by cases w <;> decide

/-- Settles O21: the loop is the closed form (`shiftLoop_eq`), whose clauses are read off one by one. -/
theorem shiftFunctionsAreLoops : Obligations.ShiftFunctionsAreLoops := by
  intro w d c hc
  have hw : 0 < w.bits := two_pos.trans_le (two_le_bits w)
  exact ⟨fun op => (shiftLoop_eq hw op d false hc).symm,
    shiftResult_shl_toNat d c, shiftResult_shl_of_width_le d, shiftCarry_shl_of_le d, shiftCarry_shl_of_lt d,
    shiftResult_sar_toInt d c, shiftCarry_sar_of_le d, shiftCarry_sar_of_lt d, shiftResult_sar_of_width_le d,
    shiftResult_shr_toNat d c, shiftResult_shr_of_width_le d, fun _ => rfl, shiftCarry_shr_of_lt d⟩

/-! ## The flags (R36, R146, R147) -/

/-- The exclusive or of bits is 1 where an odd number of them are. -/
theorem countP_even_iff_foldr_xor (p : Nat → Bool) (l : List Nat) :
    l.countP p % 2 = 0 ↔ l.foldr (fun i b => p i ^^ b) false = false := by
  induction l with
  | nil => simp
  | cons i l ih =>
    rw [List.countP_cons, List.foldr_cons]
    cases hi : p i with
    | false => simpa using ih
    | true =>
      simp only [if_true, Bool.true_xor, Bool.not_eq_false', ← Bool.not_eq_false, ← ih]
      omega

theorem parity8_iff {w : Nat} (v : BitVec w) : parity8 v = true ↔ evenParity v := by
  rw [evenParity, countP_even_iff_foldr_xor, parity8, Bool.not_eq_true']
  simp only [List.range, List.range.loop, List.foldr, Bool.xor_assoc, Bool.xor_false]

/-- SF, ZF and PF as `ofResult` sets them describe the result. -/
theorem resultFlags_of_ofResult {w : Nat} {f g : Eflags} {r : BitVec w} (hsf : g.sf = (f.ofResult r).sf)
    (hzf : g.zf = (f.ofResult r).zf) (hpf : g.pf = (f.ofResult r).pf) : resultFlags g r := by
  refine ⟨?_, ?_, ?_⟩
  · rw [hsf, Eflags.ofResult, BitVec.msb_eq_getLsbD_last]
  · rw [hzf, Eflags.ofResult, beq_iff_eq, ← BitVec.toNat_inj, BitVec.toNat_zero]
  · rw [hpf, Eflags.ofResult, parity8_iff]

theorem shiftCarryUndefined_eq_false {op : ShiftOp} {w c : Nat} (h : carryDefined op w c) :
    shiftCarryUndefined op w c = false := by
  rcases h with rfl | h
  · rfl
  · simp [shiftCarryUndefined, h]

/-- The sign of `d << 1` is the second bit from the top, so there must be one. -/
theorem shiftOverflowOne_eq {w : Nat} (hw : 2 ≤ w) (op : ShiftOp) (d : BitVec w) :
    shiftOverflowOne op d = overflowOne op d := by
  cases op with
  | shl =>
    have hmsb : (d <<< 1).msb = d.getLsbD (w - 2) := by
      rw [BitVec.msb_eq_getLsbD_last, BitVec.getLsbD_shiftLeft]
      simp [show w - 1 < w by omega, show ¬ w - 1 < 1 by omega, show w - 1 - 1 = w - 2 by omega]
    rw [shiftOverflowOne, shiftResult, hmsb, shiftCarry_shl_of_le d (by omega), Bool.xor_comm]
    rfl
  | sar => rfl
  | shr => exact BitVec.msb_eq_getLsbD_last d

/-! ## The thirty-six rows (R141, R142) -/

theorem withRmAccess_of_accessible {s : State} {rm : RM} {n : Nat} {k : AccessKind} {go : Result}
    (h : RmAccessible s rm n k) : withRmAccess s rm n k go = go := by
  refine withRmAccess_pass fun m hm => (checksPassWhenAccessible s (memLoc m s) n k).mpr ?_
  subst hm
  exact h

/-- Every row once its checks have passed. -/
theorem exec_shiftRow_pass {i : Instr} {r : ShiftRow} {s : State} (hr : shiftRow i = some r)
    (havail : Available s r.w) (hacc : RmAccessible s r.dst r.w.bytes .readwrite) :
    exec i s = if shiftCount s r.count = 0 then complete s
      else complete (shiftState r.w r.op r.dst (shiftCount s r.count) s) := by
  rw [exec_shiftRow hr, shiftInstr, need32_pass havail, withRmAccess_of_accessible hacc, maskCount_countByte]

theorem shiftCount_of_masked {s : State} (c : Count) (h : s.cfg.procGen ≠ .i8086) :
    shiftCount s c = c.raw s % 32 := by
  unfold shiftCount
  cases hg : s.cfg.procGen with
  | i8086 => exact absurd hg h
  | _ => rfl

/-- Settles O23: past the checks a masked count of 0 is completion alone, and each raw count is a multiple of 32. -/
theorem shiftByZeroChangesNothing : Obligations.ShiftByZeroChangesNothing := by
  intro i r s hr havail
  refine ⟨fun hacc h0 => ?zero, fun hg hraw => ?masked⟩
  case zero => exact (exec_shiftRow_pass hr havail hacc).trans (if_pos h0)
  case masked =>
    have hmul : ∀ n ∈ [0, 32, 64, 96, 128, 160, 192, 224], n % 32 = 0 := by decide
    rw [shiftCount_of_masked _ hg, hmul _ hraw]

/-- Settles O22: the state written is `shiftState` of the masked count, and its closed forms are those of the loop. -/
theorem shiftCompletes : Obligations.ShiftCompletes := by
  intro i r s hr havail hacc hc d c p
  have hp : p = (shiftResult r.op d c, shiftCarry r.op d c) :=
    shiftLoop_eq (two_pos.trans_le (two_le_bits r.w)) r.op d false (Nat.one_le_iff_ne_zero.mpr hc)
  obtain ⟨hcompletes, hholds⟩ := writeRm_holds s r.w r.dst (shiftResult r.op d c)
    (shiftFlags s.flags r.op d c (s.drawBit 0) (s.drawBit 1) (s.drawBit 2)) _
  rw [hp]
  exact ⟨_, (exec_shiftRow_pass hr havail hacc).trans (if_neg hc), hcompletes, hholds,
    controlFlagsKept_shiftFlags .., resultFlags_of_ofResult (f := s.flags) rfl rfl rfl,
    fun hdef => if_neg (by rw [shiftCarryUndefined_eq_false hdef]; decide),
    fun h1 => (if_pos h1).trans (shiftOverflowOne_eq (two_le_bits r.w) r.op d)⟩

end Sys2Proof.Machine
end

section
/-! PROOFS. The family 42_sbb.md: the difference and its six flags at every width (R191, R192), what each of the twenty-eight
rows of SBB and SUB writes, and the two idioms built of them: 64-bit subtraction (R208) and a register less itself (R209). -/

namespace Sys2Proof.Machine

open Ref

/-! ## The difference (R191) -/

section
variable {w : Nat} (a b : BitVec w) (cin : Bool)

theorem subResult_toNat : ((subResult a b cin).toNat : Int) = (a.toNat - b.toNat - cin.toNat) % 2 ^ w := by
  rw [subResult, BitVec.toNat_ofInt, Int.toNat_of_nonneg (Int.emod_nonneg _ (by positivity))]
  norm_cast

/-- The difference with its borrow out, which is CF. -/
theorem subResult_toNat_eq_add_borrow : ((subResult a b cin).toNat : Int) =
    a.toNat - b.toNat - cin.toNat + 2 ^ w * (decide (a.toNat < b.toNat + cin.toNat)).toNat := by
  have ha : (a.toNat : Int) < 2 ^ w := by exact_mod_cast a.isLt
  have hb : (b.toNat : Int) < 2 ^ w := by exact_mod_cast b.isLt
  have hcin := Bool.toNat_le cin
  rw [subResult_toNat]
  by_cases h : a.toNat < b.toNat + cin.toNat
  · rw [decide_eq_true h, Bool.toNat_true, Nat.cast_one, mul_one, ← Int.add_emod_right]
    exact Int.emod_eq_of_lt (by omega) (by omega)
  · rw [decide_eq_false h, Bool.toNat_false, Nat.cast_zero, mul_zero, add_zero]
    exact Int.emod_eq_of_lt (by omega) (by omega)

theorem isDifference_subResult : isDifference a b cin (subResult a b cin) := by
  rw [isDifference, subResult_toNat, sub_sub]

/-- Modulo `2^w` the signed values give the same difference as the unsigned ones. -/
theorem subResult_eq_ofInt_toInt : subResult a b cin = BitVec.ofInt w (a.toInt - b.toInt - cin.toNat) := by
  simp only [subResult, sub_eq_add_neg, BitVec.ofInt_add, BitVec.ofInt_neg, BitVec.ofInt_toInt, BitVec.ofInt_natCast,
    BitVec.ofNat_toNat, BitVec.setWidth_eq]

theorem subResult_eq_ofInt_add_mul (k : Int) :
    subResult a b cin = BitVec.ofInt w (a.toInt - b.toInt - cin.toNat + 2 ^ w * k) := by
  rw [subResult_eq_ofInt_toInt]
  apply BitVec.eq_of_toInt_eq
  rw [BitVec.toInt_ofInt, BitVec.toInt_ofInt]
  exact_mod_cast (Int.add_mul_bmod_self_left _ (2 ^ w) k).symm

/-! ## OF (R192) -/

/-- The width as twice the signed bound. -/
theorem two_pow_eq_two_mul_signed_bound (hw : 0 < w) : (2 : Int) ^ w = 2 * 2 ^ (w - 1) := by
  rw [← pow_succ', Nat.sub_add_cancel hw]

theorem signed_difference_bounds (hw : 0 < w) :
    -2 ^ w ≤ a.toInt - b.toInt - cin.toNat ∧ a.toInt - b.toInt - cin.toNat < 2 ^ w := by
  have hpow := two_pow_eq_two_mul_signed_bound hw
  have hcin := Bool.toNat_le cin
  have ha := BitVec.le_toInt a
  have ha' := BitVec.toInt_lt (x := a)
  have hb := BitVec.le_toInt b
  have hb' := BitVec.toInt_lt (x := b)
  omega

theorem subResult_toInt_of_not_signedBorrow (hw : 0 < w) (h : ¬ signedBorrow a b cin) :
    (subResult a b cin).toInt = a.toInt - b.toInt - cin.toNat := by
  rw [signedBorrow, not_or] at h
  rw [subResult_eq_ofInt_toInt]
  exact BitVec.toInt_ofInt_eq_self hw (by omega) (by omega)

theorem subOverflow_iff (hw : 0 < w) : subOverflow a b cin = true ↔ signedBorrow a b cin := by
  rw [subOverflow, decide_eq_true_iff]
  refine ⟨fun h => by_contra fun hn => h (subResult_toInt_of_not_signedBorrow a b cin hw hn), ?_⟩
  intro hb he
  have hlow := BitVec.le_toInt (subResult a b cin)
  have hhigh := BitVec.toInt_lt (x := subResult a b cin)
  rw [signedBorrow] at hb
  omega

/-- A difference that leaves the signed range comes back one width higher or lower. -/
theorem subResult_toInt_of_signedBorrow (hw : 0 < w) (h : signedBorrow a b cin) :
    (a.toInt - b.toInt - cin.toNat < 0 → (subResult a b cin).toInt = a.toInt - b.toInt - cin.toNat + 2 ^ w) ∧
      (0 ≤ a.toInt - b.toInt - cin.toNat → (subResult a b cin).toInt = a.toInt - b.toInt - cin.toNat - 2 ^ w) := by
  have hpow := two_pow_eq_two_mul_signed_bound hw
  obtain ⟨hlow, hhigh⟩ := signed_difference_bounds a b cin hw
  rw [signedBorrow] at h
  constructor
  · intro hneg
    rw [subResult_eq_ofInt_add_mul a b cin 1, mul_one]
    exact BitVec.toInt_ofInt_eq_self hw (by omega) (by omega)
  · intro hpos
    rw [subResult_eq_ofInt_add_mul a b cin (-1), mul_neg_one, ← sub_eq_add_neg]
    exact BitVec.toInt_ofInt_eq_self hw (by omega) (by omega)

/-- The signed range is left exactly where the operands' signs differ and the result has not the minuend's. -/
theorem signedBorrow_iff_signs (hw : 0 < w) : signedBorrow a b cin ↔
    (a.toInt < 0 ↔ 0 ≤ b.toInt) ∧ (a.toInt < 0 ↔ 0 ≤ (subResult a b cin).toInt) := by
  have hpow := two_pow_eq_two_mul_signed_bound hw
  have hcin := Bool.toNat_le cin
  have ha := BitVec.le_toInt a
  have ha' := BitVec.toInt_lt (x := a)
  have hb := BitVec.le_toInt b
  have hb' := BitVec.toInt_lt (x := b)
  by_cases h : signedBorrow a b cin
  · obtain ⟨hlow, hhigh⟩ := subResult_toInt_of_signedBorrow a b cin hw h
    rw [signedBorrow] at h ⊢
    omega
  · have hr := subResult_toInt_of_not_signedBorrow a b cin hw h
    rw [signedBorrow] at h ⊢
    omega

theorem subOverflow_eq_signs (hw : 0 < w) :
    subOverflow a b cin = ((a.msb != b.msb) && (a.msb != (subResult a b cin).msb)) := by
  rw [Bool.eq_iff_iff, subOverflow_iff a b cin hw, signedBorrow_iff_signs a b cin hw]
  simp only [BitVec.msb_eq_toInt, Bool.and_eq_true, bne_iff_ne, ne_eq, decide_eq_decide]
  omega

/-! ## The six flags (R192) -/

theorem differenceFlags_subFlags (hw : 0 < w) (f : Eflags) :
    differenceFlags (subFlags f a b cin) a b cin (subResult a b cin) :=
  ⟨decide_eq_true_iff, subOverflow_iff a b cin hw, resultFlags_of_ofResult (f := f) rfl rfl rfl, decide_eq_true_iff⟩

end

/-- Settles O27, by the exact difference and its two signs at every width. -/
theorem subtractionFlags : Obligations.SubtractionFlags := by
  intro w f a b cin r g
  have hw : 0 < w.bits := two_pos.trans_le (two_le_bits w)
  obtain ⟨hcf, hof, ⟨_, hzf, hpf⟩, haf⟩ := differenceFlags_subFlags a b cin hw f
  have hsigns : g.ofl = _ := subOverflow_eq_signs a b cin hw
  simp only [BitVec.msb_eq_getLsbD_last] at hsigns
  exact ⟨isDifference_subResult a b cin, hcf, hof, hsigns, BitVec.msb_eq_getLsbD_last r, hzf, hpf, haf,
    controlFlagsKept_subFlags f a b cin⟩

/-! ## The twenty-eight rows (R194 to R207; 49_sub_sysenter_sysexit.md R388 to R401) -/

/-- The difference a row writes. -/
def subRowResult (r : SubRow) (s : State) : BitVec r.w.bits :=
  subResult (readRm s r.w r.dst) (r.src.value s) (borrowIn r.carry s)

/-- The flags a row leaves. -/
def subRowFlags (r : SubRow) (s : State) : Eflags :=
  subFlags s.flags (readRm s r.w r.dst) (r.src.value s) (borrowIn r.carry s)

/-- The state after a row: its difference, its flags, the draws of its reads, and IntShadow clear. -/
def subRowState (r : SubRow) (s : State) : State :=
  (((writeRm s r.w r.dst (subRowResult r s)).withFlags (subRowFlags r s)).spend
    (rmDraws r.dst + r.src.draws)).withIntShadow false

theorem withSrcAccess_of_accessible {w : Width} {s : State} {src : Src w} {go : Result} (h : src.accessible s) :
    withSrcAccess s src go = go := by
  cases src with
  | imm v => rfl
  | rm r => exact withRmAccess_of_accessible h

/-- Every row once its checks have passed. -/
theorem exec_subRow_pass {i : Instr} {r : SubRow} {s : State} (hr : subRow i = some r) (havail : Available s r.w)
    (hdst : RmAccessible s r.dst r.w.bytes .readwrite) (hsrc : r.src.accessible s) :
    exec i s = .next (subRowState r s) := by
  rw [exec_subRow hr, need32_pass havail, withRmAccess_of_accessible hdst, withSrcAccess_of_accessible hsrc]
  rfl

theorem subRowState_holds (r : SubRow) (s : State) :
    completes s (subRowState r s) ∧ dstHolds s (subRowState r s) r.w r.dst (subRowResult r s) :=
  writeRm_holds s r.w r.dst (subRowResult r s) (subRowFlags r s) _

/-- Settles O28: past the checks the state is `subRowState`, whose difference and flags are those of the operands. -/
theorem subtractCompletes : Obligations.SubtractCompletes := by
  intro i r s hr havail hdst hsrc a b cin
  obtain ⟨hcompletes, hholds⟩ := subRowState_holds r s
  exact ⟨subRowState r s, subRowResult r s, exec_subRow_pass hr havail hdst hsrc, hcompletes,
    isDifference_subResult a b cin, hholds,
    differenceFlags_subFlags a b cin (two_pos.trans_le (two_le_bits r.w)) s.flags,
    controlFlagsKept_subFlags s.flags a b cin⟩

/-! ## A register less itself (R209; 49_sub_sysenter_sysexit.md R402) -/

theorem subResult_self {w : Nat} (a : BitVec w) (cin : Bool) :
    subResult a a cin = if cin then BitVec.allOnes w else 0#w := by
  rw [subResult, sub_self, zero_sub]
  cases cin with
  | false => simp
  | true =>
    rw [BitVec.ofInt_neg, if_pos rfl, ← BitVec.neg_one_eq_allOnes]
    rfl

theorem not_signedBorrow_self {w : Nat} (a : BitVec w) (cin : Bool) : ¬ signedBorrow a a cin := by
  have hpos : (0 : Int) < 2 ^ (w - 1) := by positivity
  have hcin := Bool.toNat_le cin
  rw [signedBorrow]
  omega

theorem parity8_zero (w : Nat) : parity8 (0#w) = true := by simp [parity8]

/-- The low byte of all ones has eight 1s. -/
theorem parity8_allOnes {w : Nat} (hw : 8 ≤ w) : parity8 (BitVec.allOnes w) = true := by
  have hlow : ∀ i < 8, (BitVec.allOnes w).getLsbD i = true := fun i hi => by
    rw [BitVec.getLsbD_allOnes, decide_eq_true (hi.trans_le hw)]
  simp [parity8, hlow]

/-- The borrow in decides every flag. -/
theorem subFlags_self {w : Nat} (hw : 8 ≤ w) (f : Eflags) (a : BitVec w) (cin : Bool) :
    subFlags f a a cin = { f with cf := cin, ofl := false, sf := cin, zf := !cin, af := cin, pf := true } := by
  have hw0 : 0 < w := by omega
  have hof : subOverflow a a cin = false :=
    Bool.eq_false_iff.mpr fun h => not_signedBorrow_self a cin ((subOverflow_iff a a cin hw0).mp h)
  cases cin with
  | false => simp [subFlags, Eflags.ofResult, subResult_self, hof, parity8_zero]
  | true => simp [subFlags, Eflags.ofResult, subResult_self, hof, parity8_allOnes hw, BitVec.msb_allOnes hw0]

theorem eight_le_bits (w : Width) : 8 ≤ w.bits := by cases w <;> decide

/-- Settles O53, by the difference and the flags of two equal operands. -/
theorem sameRegisterSubtraction : Obligations.SameRegisterSubtraction := by
  intro i s carry w n hr havail cin
  obtain ⟨_, hread, _, _⟩ := subRowState_holds ⟨carry, w, .reg n, .rm (.reg n)⟩ s
  have hflags : (subRowState ⟨carry, w, .reg n, .rm (.reg n)⟩ s).flags = _ :=
    subFlags_self (eight_le_bits w) s.flags (s.readReg w n) cin
  refine ⟨_, exec_subRow_pass hr havail trivial trivial, hread.trans (subResult_self (s.readReg w n) cin), ?_⟩
  rw [hflags]
  exact ⟨rfl, rfl, rfl, rfl, rfl, rfl⟩

/-! ## 64-bit subtraction (R190, R208) -/

theorem append_toNat_eq {v w : Nat} (x : BitVec v) (y : BitVec w) : (x ++ y).toNat = 2 ^ w * x.toNat + y.toNat := by
  rw [BitVec.toNat_append, ← Nat.shiftLeft_add_eq_or_of_lt y.isLt, Nat.shiftLeft_eq, Nat.mul_comm]

section
variable (x1 x0 y1 y0 : Word32)

theorem append_toInt_eq : (x1 ++ x0).toInt = 2 ^ 32 * x1.toInt + x0.toNat := BitVec.toInt_append

/-- The borrow of the low halves. -/
abbrev lowBorrow : Bool := decide (x0.toNat < y0.toNat)

theorem subFlags_cf_eq_lowBorrow (f : Eflags) : (subFlags f x0 y0 false).cf = lowBorrow x0 y0 := rfl

theorem subResult_low : ((subResult x0 y0 false).toNat : Int) =
    x0.toNat - y0.toNat + 2 ^ 32 * (lowBorrow x0 y0).toNat := by
  simpa using subResult_toNat_eq_add_borrow x0 y0 false

theorem append_lt_append_iff : (x1 ++ x0).toNat < (y1 ++ y0).toNat ↔ x1.toNat < y1.toNat + (lowBorrow x0 y0).toNat := by
  have hlow := subResult_low x0 y0
  rw [append_toNat_eq, append_toNat_eq]
  omega

theorem signedBorrow_append_iff :
    signedBorrow (x1 ++ x0) (y1 ++ y0) false ↔ signedBorrow x1 y1 (lowBorrow x0 y0) := by
  have hlow := subResult_low x0 y0
  simp only [signedBorrow, append_toInt_eq, Bool.toNat_false]
  omega

theorem subResult_append :
    subResult x1 y1 (lowBorrow x0 y0) ++ subResult x0 y0 false = (x1 ++ x0) - (y1 ++ y0) := by
  have hlow := subResult_low x0 y0
  have hhigh := subResult_toNat x1 y1 (lowBorrow x0 y0)
  apply BitVec.eq_of_toNat_eq
  rw [BitVec.toNat_sub, append_toNat_eq, append_toNat_eq, append_toNat_eq]
  omega

end

/-- A row between 32-bit registers changes no register but its destination. -/
theorem subRowState_reg32 (carry : Bool) (n m k : RegNum) (s : State) :
    (subRowState ⟨carry, .w32, .reg n, .rm (.reg m)⟩ s).reg32 k =
      if k = n then subResult (s.reg32 n) (s.reg32 m) (borrowIn carry s) else s.reg32 k :=
  reg32_setReg32 s n k _

/-- Settles O50: the SBB takes the borrow of the low halves, and its halves, borrow and sign are those of the 64 bits. -/
theorem multiwordSubtraction : Obligations.MultiwordSubtraction := by
  intro s a1 a0 b1 b0 h32 ha hb a b
  let t := subRowState ⟨false, .w32, .reg a0, .rm (.reg b0)⟩ s
  let u := subRowState ⟨true, .w32, .reg a1, .rm (.reg b1)⟩ t
  have ht1 : t.reg32 a1 = s.reg32 a1 := (subRowState_reg32 ..).trans (if_neg ha)
  have htb : t.reg32 b1 = s.reg32 b1 := (subRowState_reg32 ..).trans (if_neg hb)
  have hborrow : t.flags.cf = lowBorrow (s.reg32 a0) (s.reg32 b0) := subFlags_cf_eq_lowBorrow _ _ s.flags
  have hu0 : u.reg32 a0 = subResult (s.reg32 a0) (s.reg32 b0) false :=
    (subRowState_reg32 ..).trans ((if_neg ha.symm).trans ((subRowState_reg32 ..).trans (if_pos rfl)))
  have hu1 : u.reg32 a1 = subResult (s.reg32 a1) (s.reg32 b1) (lowBorrow (s.reg32 a0) (s.reg32 b0)) := by
    rw [← ht1, ← htb, ← hborrow]
    exact (subRowState_reg32 ..).trans (if_pos rfl)
  have hflags : differenceFlags u.flags (s.reg32 a1) (s.reg32 b1) (lowBorrow (s.reg32 a0) (s.reg32 b0)) (u.reg32 a1) := by
    rw [hu1, ← ht1, ← htb, ← hborrow]
    exact differenceFlags_subFlags (t.reg32 a1) (t.reg32 b1) t.flags.cf (by decide) t.flags
  obtain ⟨hcf, hof, hresult, _⟩ := hflags
  have hdiff : u.reg32 a1 ++ u.reg32 a0 = a - b := by rw [hu1, hu0, subResult_append]
  have hsf : u.flags.sf = (a - b).getLsbD 63 := by
    rw [← hdiff, BitVec.getLsbD_append, Bool.eq_iff_iff]
    exact hresult.1
  exact ⟨t, u, exec_subRow_pass rfl (fun _ => h32) trivial trivial, exec_subRow_pass rfl (fun _ => h32) trivial trivial,
    hdiff, hcf.trans (append_lt_append_iff ..).symm, hof.trans (signedBorrow_append_iff ..).symm, hsf, hresult⟩

end Sys2Proof.Machine
end

section
/-! PROOFS. The family 43_scas.md: the step of (E)DI that the string forms share (R217; 20_memory.md R89), and what the six
rows of SCAS do (R216). -/

namespace Sys2Proof.Machine

open Ref

/-! ## The step of (E)DI (R217; 20_memory.md R89; D5) -/

theorem putLow16_toNat (old : Word32) (v : Word16) : (putLow16 old v).toNat = old.toNat / 65536 * 65536 + v.toNat := by
  have hold := old.isLt
  rw [putLow16, append_toNat_eq, BitVec.extractLsb'_toNat, Nat.shiftRight_eq_div_pow]
  omega

/-- A register stepped by `n`, down or up, as one sum modulo its size. -/
theorem stepped_toNat {w : Nat} (x : BitVec w) {n : Nat} (hn : n < 2 ^ w) (down : Bool) :
    (if down then x - BitVec.ofNat w n else x + BitVec.ofNat w n).toNat =
      (x.toNat + if down then 2 ^ w - n else n) % 2 ^ w := by
  cases down with
  | false => simp [BitVec.toNat_add]
  | true => simp [BitVec.toNat_sub, Nat.mod_eq_of_lt hn, Nat.add_comm]

section
variable (s : State) (asz : Size) (w : Width)

theorem stepDi_edi :
    ((stepDi s asz w).reg32 7#3).toNat = ediAfter asz w.bytes s.flags.df (s.reg32 7#3).toNat := by
  have hbytes := width_bytes_lt w
  cases asz with
  | s16 =>
    have hdi : (s.readReg .w16 7#3).toNat = (s.reg32 7#3).toNat % 65536 := BitVec.extractLsb'_toNat ..
    have hstep := stepped_toNat (s.readReg .w16 7#3) hbytes s.flags.df
    rw [hdi] at hstep
    rw [stepDi, State.writeReg, reg32_setReg32_self, putLow16_toNat, hstep]
    rfl
  | s32 =>
    rw [stepDi, State.writeReg, reg32_setReg32_self]
    exact stepped_toNat (s.reg32 7#3) (hbytes.trans (by decide)) s.flags.df

theorem ediStepped_stepDi : ediStepped s (stepDi s asz w) w asz := by
  obtain ⟨_, _, hother⟩ := stepDi_eq s asz w
  exact ⟨stepDi_edi s asz w, hother⟩

@[simp] theorem stepDi_flags : (stepDi s asz w).flags = s.flags := by
  obtain ⟨g, hg, _⟩ := stepDi_eq s asz w
  rw [hg, State.withGpr_flags]

@[simp] theorem stepDi_heldAt (a : Word32) : (stepDi s asz w).heldAt a = s.heldAt a := by
  obtain ⟨g, hg, _⟩ := stepDi_eq s asz w
  rw [hg, State.withGpr_heldAt]

/-- The step is of a general register: whatever flags and memory a string form has written before it, it completes. -/
theorem completes_stepDi {u : State} (h : completes s (u.withIntShadow false)) (d : Nat) :
    completes s (((stepDi u asz w).withDraws d).withIntShadow false) := by
  obtain ⟨g, hg, _⟩ := stepDi_eq u asz w
  rw [hg]
  exact h

end

/-! ## The six rows (R219 to R224) -/

theorem withAccess_of_accessible {s : State} {l : Loc} {n : Nat} {k : AccessKind} {go : Result}
    (h : Accessible s l n k) : withAccess s l n k go = go :=
  withAccess_pass ((checksPassWhenAccessible s l n k).mpr h)

/-- The flags SCAS leaves: those of the accumulator less the operand. -/
def scasFlags (w : Width) (asz : Size) (s : State) : Eflags :=
  subFlags s.flags (s.readReg w 0#3) (s.readLoc w (stringOperand s asz)) false

/-- The state after SCAS: its flags, the step, the draw of its read, and IntShadow clear. -/
def scasState (w : Width) (asz : Size) (s : State) : State :=
  ((stepDi (s.withFlags (scasFlags w asz s)) asz w).spend 1).withIntShadow false

/-- Every row once its check has passed. -/
theorem exec_scasRow_pass {i : Instr} {w : Width} {asz : Size} {s : State} (hr : scasRow i = some (w, asz))
    (havail : Available s w) (hacc : Accessible s (stringOperand s asz) w.bytes .read) :
    exec i s = .next (scasState w asz s) := by
  rw [exec_scasRow hr, scas, need32_pass havail, stringLoc_eq_stringOperand, withAccess_of_accessible hacc]
  rfl

section
variable (w : Width) (asz : Size) (s : State)

theorem scasState_flags : (scasState w asz s).flags = scasFlags w asz s := stepDi_flags ..

theorem scasState_completes : completes s (scasState w asz s) :=
  completes_stepDi s asz w (completes_withFlags s (scasFlags w asz s)) (s.draws + 1)

/-- DF, which the comparison leaves, gives the direction. -/
theorem scasState_ediStepped : ediStepped s (scasState w asz s) w asz :=
  ediStepped_stepDi (s.withFlags (scasFlags w asz s)) asz w

theorem scasState_memKept : memKept s (scasState w asz s) := stepDi_heldAt (s.withFlags (scasFlags w asz s)) asz w

end

/-- Settles O29: past the check the state is `scasState`, whose flags are those of a subtraction without borrow in. -/
theorem scasCompletes : Obligations.ScasCompletes := by
  intro i w asz s hr havail hacc a b
  have hw : 0 < w.bits := two_pos.trans_le (two_le_bits w)
  refine ⟨scasState w asz s, subResult a b false, exec_scasRow_pass hr havail hacc, scasState_completes w asz s,
    isDifference_subResult a b false, ?flags, ?control, scasState_ediStepped w asz s, scasState_memKept w asz s⟩
  case flags =>
    rw [scasState_flags]
    exact differenceFlags_subFlags a b false hw s.flags
  case control =>
    rw [scasState_flags]
    exact controlFlagsKept_subFlags s.flags a b false

end Sys2Proof.Machine
end

section
/-! PROOFS. The family 44_setcc.md: the sixteen conditions (R237), what they say after a subtraction (R272), what the
thirty rows of SETcc write (R236, R274), and their opcode bytes (R239; 30_encoding.md R113). -/

namespace Sys2Proof.Machine

open Ref

/-! ## The conditions (R237) -/

theorem condHolds_iff (cc : BitVec 4) (f : Eflags) : condHolds cc f = true ↔ condition cc.toNat f := by
  obtain ⟨n⟩ := cc
  fin_cases n <;> simp [condHolds, condition]

/-- Bits 3:1 pick the row of the even condition, and bit 0 negates it. -/
theorem condHolds_xor_one (cc : BitVec 4) (f : Eflags) : condHolds (cc ^^^ 1#4) f = !condHolds cc f := by
  have heven : (cc ^^^ 1#4).extractLsb' 1 3 = cc.extractLsb' 1 3 := by
    revert cc
    decide
  have hodd : (cc ^^^ 1#4).getLsbD 0 = !cc.getLsbD 0 := by simp
  rw [condHolds, heven, hodd, Bool.not_xor]
  rfl

/-! ## The relations of two operands (R272) -/

/-- Below, above, equal, less and greater say how `a` stands to `b`. -/
def relations {w : Nat} (g : Eflags) (a b : BitVec w) : Prop :=
  (condition 2 g ↔ a.toNat < b.toNat) ∧ (condition 7 g ↔ b.toNat < a.toNat) ∧ (condition 4 g ↔ a = b) ∧
    (condition 12 g ↔ a.toInt < b.toInt) ∧ (condition 15 g ↔ b.toInt < a.toInt)

section
variable {w : Nat} (a b : BitVec w)

theorem subResult_toNat_eq_zero_iff : (subResult a b false).toNat = 0 ↔ a = b := by
  have hr := subResult_toNat_eq_add_borrow a b false
  have hb : (b.toNat : Int) < 2 ^ w := by exact_mod_cast b.isLt
  rw [← BitVec.toNat_inj]
  by_cases h : a.toNat < b.toNat
  · simp only [Bool.toNat_false, Nat.add_zero, h, decide_true, Bool.toNat_true] at hr
    omega
  · simp only [Bool.toNat_false, Nat.add_zero, h, decide_false] at hr
    omega

/-- The difference has the sign of the exact one, except where that leaves the signed range. -/
theorem subResult_neg_iff_signedBorrow (hw : 0 < w) :
    ¬ ((subResult a b false).toInt < 0 ↔ signedBorrow a b false) ↔ a.toInt < b.toInt := by
  by_cases h : signedBorrow a b false
  · have hbounds := signed_difference_bounds a b false hw
    have hr := subResult_toInt_of_signedBorrow a b false hw h
    simp only [h, iff_true, Bool.toNat_false, Nat.cast_zero, sub_zero] at hbounds hr ⊢
    omega
  · have hr := subResult_toInt_of_not_signedBorrow a b false hw h
    simp only [h, hr, iff_false, Bool.toNat_false, Nat.cast_zero, sub_zero]
    omega

theorem subFlags_sf_iff (f : Eflags) (cin : Bool) :
    (subFlags f a b cin).sf = true ↔ (subResult a b cin).toInt < 0 := by
  change (subResult a b cin).msb = true ↔ _
  rw [BitVec.msb_eq_toInt, decide_eq_true_iff]

/-- Without a borrow in, CF is below, ZF is equal, and SF with OF is less; the two others are what is left. -/
theorem relations_subFlags (hw : 0 < w) (f : Eflags) : relations (subFlags f a b false) a b := by
  have hsf := subFlags_sf_iff a b f false
  obtain ⟨hcf, hof, ⟨_, hzf, _⟩, _⟩ := differenceFlags_subFlags a b false hw f
  rw [Bool.toNat_false, Nat.add_zero] at hcf
  rw [subResult_toNat_eq_zero_iff] at hzf
  have hless : (subFlags f a b false).sf ≠ (subFlags f a b false).ofl ↔ a.toInt < b.toInt := by
    rw [← subResult_neg_iff_signedBorrow a b hw, ← hsf, ← hof, ← Bool.eq_iff_iff]
  refine ⟨hcf, ?above, hzf, hless, ?greater⟩
  case above =>
    change _ = false ∧ _ = false ↔ _
    rw [← Bool.not_eq_true, ← Bool.not_eq_true, hcf, hzf, ← BitVec.toNat_inj]
    omega
  case greater =>
    change _ = false ∧ _ = _ ↔ _
    rw [← Bool.not_eq_true, hzf, not_ne_iff.symm.trans (not_congr hless), ← BitVec.toInt_inj]
    omega

end

/-! ## The rows that compare (R272; 43_scas.md R229; 49_sub_sysenter_sysexit.md R403) -/

theorem exec_subRow_next {i : Instr} {r : SubRow} {s t : State} (hr : subRow i = some r) (h : exec i s = .next t) :
    t = subRowState r s := by
  rw [exec_subRow hr] at h
  exact (complete_next _ _).mp (withSrcAccess_next (withRmAccess_next (need32_next h).2).2)

theorem exec_scasRow_next {i : Instr} {w : Width} {asz : Size} {s t : State} (hr : scasRow i = some (w, asz))
    (h : exec i s = .next t) : t = scasState w asz s := by
  rw [exec_scasRow hr] at h
  rw [scas_next h, stringLoc_eq_stringOperand]
  rfl

theorem borrowIn_eq_false {carry : Bool} {s : State} (h : carry = true → s.flags.cf = false) :
    borrowIn carry s = false := by
  cases carry with
  | false => rfl
  | true => exact h rfl

/-- Settles O49: without a borrow in, the flags left are those of the operands' relations. -/
theorem relationsAfterSubtraction : Obligations.RelationsAfterSubtraction := by
  intro i s t h
  refine ⟨fun r hr hcarry => ?sub, fun w asz hr => ?scas⟩
  case sub =>
    intro a b
    have hflags : t.flags = subFlags s.flags a b false := by
      rw [exec_subRow_next hr h, ← borrowIn_eq_false hcarry]
      rfl
    rw [hflags]
    exact relations_subFlags a b (two_pos.trans_le (two_le_bits r.w)) s.flags
  case scas =>
    intro a b
    rw [exec_scasRow_next hr h, scasState_flags]
    exact relations_subFlags a b (two_pos.trans_le (two_le_bits w)) s.flags

/-! ## The thirty rows (R236, R240 to R269) -/

theorem setccRow_lt {i : Instr} {cc : Nat} {dst : RM} (h : setccRow i = some (cc, dst)) : cc < 16 := by
  cases i <;> first | (cases h; done) | (cases h; decide)

/-- The byte written. -/
def setccByte (cc : Nat) (s : State) : Byte := if condHolds (BitVec.ofNat 4 cc) s.flags then 1#8 else 0#8

/-- The state after a row: its byte, and IntShadow clear. -/
def setccState (cc : Nat) (dst : RM) (s : State) : State := (writeRm s .w8 dst (setccByte cc s)).withIntShadow false

/-- Every row once its check has passed. -/
theorem exec_setccRow_pass {i : Instr} {cc : Nat} {dst : RM} {s : State} (hr : setccRow i = some (cc, dst))
    (hacc : RmAccessible s dst 1 .write) : exec i s = .next (setccState cc dst s) := by
  rw [exec_setccRow hr, setcc, withRmAccess_of_accessible hacc]
  rfl

theorem setccState_flags (cc : Nat) (dst : RM) (s : State) : (setccState cc dst s).flags = s.flags :=
  (writeRm_fields s .w8 dst (setccByte cc s)).1

theorem setccState_holds (cc : Nat) (dst : RM) (s : State) :
    completes s (setccState cc dst s) ∧ dstHolds s (setccState cc dst s) .w8 dst (setccByte cc s) := by
  have h := writeRm_holds s .w8 dst (setccByte cc s) s.flags s.draws
  cases dst with
  | reg n => exact h
  | mem m => exact h

theorem setccByte_eq {cc : Nat} (hcc : cc < 16) (s : State) :
    (condition cc s.flags → setccByte cc s = 1#8) ∧ (¬ condition cc s.flags → setccByte cc s = 0#8) := by
  have h := condHolds_iff (BitVec.ofNat 4 cc) s.flags
  rw [BitVec.toNat_ofNat, Nat.mod_eq_of_lt hcc] at h
  exact ⟨fun hc => if_pos (h.mpr hc), fun hc => if_neg (mt h.mp hc)⟩

/-- Settles O32: past the check the state is `setccState`, whose byte goes by the condition. -/
theorem setccCompletes : Obligations.SetccCompletes := by
  intro i cc dst s hr hacc
  obtain ⟨hcompletes, hholds⟩ := setccState_holds cc dst s
  obtain ⟨hone, hzero⟩ := setccByte_eq (setccRow_lt hr) s
  exact ⟨setccState cc dst s, exec_setccRow_pass hr hacc, hcompletes, setccState_flags cc dst s,
    fun hc => hone hc ▸ hholds, fun hc => hzero hc ▸ hholds⟩

/-! ## The opcode bytes (R239; 30_encoding.md R113) -/

/-- The row the decoder answers for a `cc` (R109, R113). -/
def setccOf (cc : BitVec 4) : RM → Instr :=
  match cc.toNat with
  | 0x0 => .seto
  | 0x1 => .setno
  | 0x2 => .setb
  | 0x3 => .setae
  | 0x4 => .sete
  | 0x5 => .setne
  | 0x6 => .setbe
  | 0x7 => .seta
  | 0x8 => .sets
  | 0x9 => .setns
  | 0xA => .setp
  | 0xB => .setnp
  | 0xC => .setl
  | 0xD => .setge
  | 0xE => .setle
  | _ => .setg

theorem setccRow_setccOf (cc : BitVec 4) (dst : RM) : setccRow (setccOf cc dst) = some (cc.toNat, dst) := by
  obtain ⟨n⟩ := cc
  fin_cases n <;> rfl

theorem decodeOpcode_setcc (osz asz : Size) (seg : Option SegName) (cc : BitVec 4) (bs : List Byte) :
    decodeOpcode osz asz seg 0x0F#8 ((0x90#8 + cc.zeroExtend 8) :: bs) =
      withModRM asz seg bs fun _ => done (setccOf cc) := by
  obtain ⟨n⟩ := cc
  fin_cases n <;> rfl

theorem decode_setcc (dflt : Size) (cc : BitVec 4) (bs : List Byte) :
    decode dflt (0x0F#8 :: (0x90#8 + cc.zeroExtend 8) :: bs) = withModRM dflt none bs fun _ => done (setccOf cc) :=
  (decode_sizeSeg (run := []) nofun (by decide) dflt _).trans (decodeOpcode_setcc dflt dflt none cc bs)

/-! ### A ModR/M byte and what it calls for is read, or cut short (R100 to R102) -/

/-- Decoding goes on with `k`, or the bytes are cut short. -/
def goesOn {α : Type} (k : α → List Byte → Decoded) (d : Decoded) : Prop :=
  (∃ a r, d = k a r) ∨ d = .error .truncated

section
variable {α β : Type} {k : α → List Byte → Decoded}

theorem goesOn_self (a : α) (r : List Byte) : goesOn k (k a r) := .inl ⟨a, r, rfl⟩

theorem goesOn_of_comp {f : β → α} {d : Decoded} (h : goesOn (fun b r => k (f b) r) d) : goesOn k d :=
  h.imp_left fun ⟨b, r, hd⟩ => ⟨f b, r, hd⟩

theorem goesOn_ite {p : Prop} [Decidable p] {d e : Decoded} (hd : goesOn k d) (he : goesOn k e) :
    goesOn k (if p then d else e) := by
  split
  · exact hd
  · exact he

theorem goesOn_take8 {j : Byte → List Byte → Decoded} (bs : List Byte) (h : ∀ b r, goesOn k (j b r)) :
    goesOn k (take8 bs j) := by
  unfold take8
  split
  · exact h _ _
  · exact .inr rfl

theorem goesOn_take16 {j : Word16 → List Byte → Decoded} (bs : List Byte) (h : ∀ d r, goesOn k (j d r)) :
    goesOn k (take16 bs j) := by
  unfold take16
  split
  · exact h _ _
  · exact .inr rfl

theorem goesOn_take32 {j : Word32 → List Byte → Decoded} (bs : List Byte) (h : ∀ d r, goesOn k (j d r)) :
    goesOn k (take32 bs j) := by
  unfold take32
  split
  · exact h _ _
  · exact .inr rfl

end

section
variable (mod : BitVec 2) (rm : RegNum) (bs : List Byte) (k : EffAddr → List Byte → Decoded)

theorem goesOn_withAddr16 : goesOn k (withAddr16 mod rm bs k) :=
  goesOn_ite
    (goesOn_ite (goesOn_take16 bs fun _ _ => goesOn_self _ _) (goesOn_self _ _))
    (goesOn_ite (goesOn_take8 bs fun _ _ => goesOn_self _ _) (goesOn_take16 bs fun _ _ => goesOn_self _ _))

theorem goesOn_withSib : goesOn k (withSib mod bs k) :=
  goesOn_take8 bs fun _ r => goesOn_ite
    (goesOn_ite (goesOn_take32 r fun _ _ => goesOn_self _ _) (goesOn_self _ _))
    (goesOn_ite (goesOn_take8 r fun _ _ => goesOn_self _ _) (goesOn_take32 r fun _ _ => goesOn_self _ _))

theorem goesOn_withAddr32 : goesOn k (withAddr32 mod rm bs k) :=
  goesOn_ite (goesOn_withSib mod bs k) <| goesOn_ite
    (goesOn_ite (goesOn_take32 bs fun _ _ => goesOn_self _ _) (goesOn_self _ _))
    (goesOn_ite (goesOn_take8 bs fun _ _ => goesOn_self _ _) (goesOn_take32 bs fun _ _ => goesOn_self _ _))

end

theorem goesOn_withRm (asz : Size) (seg : Option SegName) (mod : BitVec 2) (rm : RegNum) (bs : List Byte)
    (k : RM → List Byte → Decoded) : goesOn k (withRm asz seg mod rm bs k) := by
  refine goesOn_ite (goesOn_self (RM.reg rm) bs) ?_
  cases asz with
  | s16 => exact goesOn_of_comp (goesOn_withAddr16 mod rm bs _)
  | s32 => exact goesOn_of_comp (goesOn_withAddr32 mod rm bs _)

/-- A row whose reg field takes part in nothing (R239, D16). -/
theorem goesOn_withModRM (asz : Size) (seg : Option SegName) (bs : List Byte) (k : RM → List Byte → Decoded) :
    goesOn k (withModRM asz seg bs fun _ => k) :=
  goesOn_take8 bs fun m r => goesOn_withRm asz seg (modField m) (rmField m) r k

/-- The bytes of a SETcc row with a register operand. -/
theorem decode_setcc_reg (dflt : Size) (cc : BitVec 4) (reg rm : RegNum) (rest : List Byte) :
    decode dflt (0x0F#8 :: (0x90#8 + cc.zeroExtend 8) :: packModRM 3#2 reg rm :: rest) =
      .ok (setccOf cc (.reg rm), rest) :=
  (decode_setcc dflt cc _).trans (withModRM_bytes (rm := .reg rm) rfl trivial reg rest _)

/-- Settles O31: the conditions case by case, and the opcode bytes by the row the decoder goes on with. -/
theorem conditionTable : Obligations.ConditionTable := by
  refine ⟨fun cc f => ⟨condHolds_iff cc f, condHolds_xor_one cc f⟩, fun dflt cc bs => ?bytes,
    fun dflt cc reg rm rest => ⟨_, decode_setcc_reg dflt cc reg rm rest, setccRow_setccOf cc (.reg rm)⟩,
    fun dst => ?rows⟩
  case bytes =>
    rw [decode_setcc]
    obtain ⟨dst, rest, h⟩ | h := goesOn_withModRM dflt none bs (done (setccOf cc))
    · exact .inl ⟨setccOf cc dst, rest, dst, h, setccRow_setccOf cc dst⟩
    · exact .inr h
  case rows => simp [setccRow]

end Sys2Proof.Machine
end

section
/-! PROOFS. The family 45_sgdt_sidt.md: the six bytes that SGDT and SIDT store, and what the store leaves unchanged
(R281 to R284). -/

namespace Sys2Proof.Machine

open Ref

/-! ## The six bytes (R283, R284) -/

/-- The byte from bit `n` up as a number, `d` being that bit's weight. -/
theorem extractByte_toNat {w n d : Nat} (v : BitVec w) (hd : 2 ^ n = d) :
    (v.extractLsb' n 8).toNat = v.toNat / d % 256 := by
  rw [BitVec.extractLsb'_toNat, Nat.shiftRight_eq_div_pow, hd]

/-- The highest byte is what is left above the others. -/
theorem extractTopByte_toNat {n d : Nat} (v : BitVec (n + 8)) (hd : 2 ^ n = d) :
    (v.extractLsb' n 8).toNat = v.toNat / d := by
  have hlt : v.toNat < d * 2 ^ 8 := hd ▸ Nat.pow_add 2 n 8 ▸ v.isLt
  exact (extractByte_toNat v hd).trans (Nat.mod_eq_of_lt (Nat.div_lt_of_lt_mul hlt))

/-- The sixth byte of a 16-bit store goes by the processor (R284, D2). -/
theorem sixthByte_toNat (g : ProcGen) : (sixthByte g).toNat = if g = .i286 then 255 else 0 := by
  rw [sixthByte, apply_ite BitVec.toNat]
  rfl

theorem tableRegBytes_getElem (osz : Size) (g : ProcGen) (r : TableReg) (k : Nat)
    (hk : k < (tableRegBytes osz g r).length) : (tableRegBytes osz g r)[k].toNat = tableByte osz g r k := by
  match k, hk with
  | 0, _ => exact BitVec.extractLsb'_toNat ..
  | 1, _ => exact extractTopByte_toNat (n := 8) r.limit rfl
  | 2, _ => exact BitVec.extractLsb'_toNat ..
  | 3, _ => exact extractByte_toNat (n := 8) r.base rfl
  | 4, _ => exact extractByte_toNat (n := 16) r.base rfl
  | 5, _ =>
    cases osz with
    | s16 => exact sixthByte_toNat g
    | s32 => exact extractTopByte_toNat (n := 24) r.base rfl

/-! ## The store (R281, R282) -/

/-- The state after the store: its six bytes, and IntShadow clear. -/
def storeTableState (r : TableReg) (osz : Size) (m : MemRef) (s : State) : State :=
  (s.storeBytes (memLoc m s) (tableRegBytes osz s.cfg.procGen r)).withIntShadow false

theorem storeTable_pass {s : State} {m : MemRef} (hgen : s.cfg.procGen ≠ .i8086)
    (hacc : Accessible s (memLoc m s) 6 .write) (r : TableReg) (osz : Size) :
    storeTable r osz (.mem m) s = .next (storeTableState r osz m s) :=
  (if_neg hgen).trans (withAccess_of_accessible hacc)

theorem storeTable_i8086 {s : State} (hgen : s.cfg.procGen = .i8086) (r : TableReg) (osz : Size) (dst : RM) :
    storeTable r osz dst s = .refused .noDescriptorTables := if_pos hgen

section
variable (r : TableReg) (osz : Size) (m : MemRef) (s : State)

theorem storeTableState_completes : completes s (storeTableState r osz m s) := by
  simp [storeTableState, completes, systemKept, ringKept]

theorem storeTableState_byte (k : Nat) (hk : k < 6) :
    ((storeTableState r osz m s).heldAt ((memLoc m s).lin s k)).map BitVec.toNat =
      some (tableByte osz s.cfg.procGen r k) := by
  have hk : k < (tableRegBytes osz s.cfg.procGen r).length := hk
  rw [storeTableState, State.withIntShadow_heldAt, heldAt_storeBytes s (memLoc m s) _ k hk (by decide : 6 < 65536),
    Option.map_some, tableRegBytes_getElem]

theorem storeTableState_memKeptOutside : memKeptOutside s (storeTableState r osz m s) (memLoc m s) 6 :=
  heldAt_storeBytes_outside s (memLoc m s) (tableRegBytes osz s.cfg.procGen r)

end

/-- Settles O33: both instructions are the one store of `storeTableState`, whose bytes are known one by one. -/
theorem tableStoreCompletes : Obligations.TableStoreCompletes := by
  intro i osz m tab s hrow
  have hexec : exec i s = storeTable tab osz (.mem m) s := by
    obtain ⟨rfl, rfl⟩ | ⟨rfl, rfl⟩ := hrow
    · rfl
    · rfl
  rw [hexec]
  exact ⟨fun hgen hacc => ⟨storeTableState tab osz m s, storeTable_pass hgen hacc tab osz,
      storeTableState_completes tab osz m s, rfl, fun _ => rfl, storeTableState_byte tab osz m s,
      storeTableState_memKeptOutside tab osz m s⟩,
    fun hgen => storeTable_i8086 hgen tab osz (.mem m)⟩

end Sys2Proof.Machine
end

section
/-! PROOFS. The family 46_shld_shrd.md: the double shifts bit by bit (R297, R298), what each of the eight rows does by a
masked count of 0 (R300), below the width (R296, R299) and past it (R301), and the two idioms built of them: a register
rotated (R316) and a 64-bit shift (R317). -/

namespace Sys2Proof.Machine

open Ref

/-! ## The result bit by bit (R297, R298) -/

section
variable {w : Nat}

/-- Of the two parts that a double shift joins, each is 0 where the other has its bits. -/
theorem getLsbD_dshiftResult (op : DoubleShiftOp) (d src : BitVec w) {c j : Nat} (hc : c ≤ w) (hj : j < w) :
    (dshiftResult op d src c).getLsbD j = dshiftBit op d src c j := by
  cases op with
  | shld =>
    simp only [dshiftResult, dshiftBit, BitVec.getLsbD_or, BitVec.getLsbD_shiftLeft, BitVec.getLsbD_ushiftRight]
    by_cases h : c ≤ j
    · simp [h, hj, h.not_gt, BitVec.getLsbD_of_ge src (w - c + j) (by omega)]
    · simp [h, lt_of_not_ge h, show w - c + j = j + w - c by omega]
  | shrd =>
    simp only [dshiftResult, dshiftBit, BitVec.getLsbD_or, BitVec.getLsbD_shiftLeft, BitVec.getLsbD_ushiftRight]
    by_cases h : j + c < w
    · simp [h, show j < w - c by omega, Nat.add_comm c j]
    · simp [h, hj, show ¬ j < w - c by omega, show j - (w - c) = j + c - w by omega,
        BitVec.getLsbD_of_ge d (c + j) (by omega)]

theorem dshiftCarry_eq_dshiftOut (op : DoubleShiftOp) (d : BitVec w) (c : Nat) :
    dshiftCarry op d c = dshiftOut op d c := by
  cases op with
  | shld => rfl
  | shrd => rfl

end

/-! ## The eight rows (R296, R302 to R305, R312 to R315) -/

/-- The state after a row by a masked count from 1 below the width, with IntShadow clear. -/
def dshiftRowState (r : DoubleShiftRow) (s : State) : State :=
  (dshiftState r.w r.op r.dst (s.readReg r.w r.src) (r.count.raw s % 32) s).withIntShadow false

/-- Every row once its checks have passed. -/
theorem exec_dshiftRow_pass {i : Instr} {r : DoubleShiftRow} {s : State} (hr : dshiftRow i = some r)
    (havail : Available s r.w) (hacc : RmAccessible s r.dst r.w.bytes .readwrite) :
    exec i s = if r.count.raw s % 32 = 0 then complete s
      else if r.w.bits ≤ r.count.raw s % 32 then complete (dshiftUndefinedState r.w r.dst s)
      else .next (dshiftRowState r s) := by
  rw [exec_dshiftRow hr, dshiftInstr, need32_pass havail, withRmAccess_of_accessible hacc, maskCount5_countByte]
  rfl

theorem exec_dshiftRow_below_width {i : Instr} {r : DoubleShiftRow} {s : State} (hr : dshiftRow i = some r)
    (havail : Available s r.w) (hacc : RmAccessible s r.dst r.w.bytes .readwrite) (h0 : r.count.raw s % 32 ≠ 0)
    (hw : r.count.raw s % 32 < r.w.bits) : exec i s = .next (dshiftRowState r s) := by
  rw [exec_dshiftRow_pass hr havail hacc, if_neg h0, if_neg hw.not_ge]

theorem dshiftRowState_holds (r : DoubleShiftRow) (s : State) :
    completes s (dshiftRowState r s) ∧ dstHolds s (dshiftRowState r s) r.w r.dst
      (dshiftResult r.op (readRm s r.w r.dst) (s.readReg r.w r.src) (r.count.raw s % 32)) :=
  writeRm_holds s r.w r.dst _ _ _

/-- Settles O24: the state written is `dshiftRowState`, whose result is known bit by bit. -/
theorem doubleShiftCompletes : Obligations.DoubleShiftCompletes := by
  intro i r s hr havail hacc d src c hc hw
  obtain ⟨hcompletes, hholds⟩ := dshiftRowState_holds r s
  refine ⟨dshiftRowState r s, dshiftResult r.op d src c,
    exec_dshiftRow_below_width hr havail hacc (Nat.one_le_iff_ne_zero.mp hc) hw, hcompletes, hholds,
    fun j hj => getLsbD_dshiftResult r.op d src hw.le hj, controlFlagsKept_dshiftFlags ..,
    resultFlags_of_ofResult (f := s.flags) rfl rfl rfl, dshiftCarry_eq_dshiftOut r.op d c, fun h1 => ?_⟩
  rw [← BitVec.msb_eq_getLsbD_last, ← BitVec.msb_eq_getLsbD_last]
  exact if_pos h1

/-- Settles O25: past the checks a masked count of 0 is completion alone. -/
theorem doubleShiftByZeroChangesNothing : Obligations.DoubleShiftByZeroChangesNothing := by
  intro i r s hr havail hacc h0
  exact (exec_dshiftRow_pass hr havail hacc).trans (if_pos h0)

/-- Settles O26: the value is the first draw, and the flags are the six after it. -/
theorem doubleShiftPastWidth : Obligations.DoubleShiftPastWidth := by
  intro i r s hr havail hacc hw
  have h0 : r.count.raw s % 32 ≠ 0 := (two_pos.trans_le ((two_le_bits r.w).trans hw)).ne'
  obtain ⟨hcompletes, hholds⟩ := writeRm_holds s r.w r.dst (s.draw r.w.bits 0) _ _
  exact ⟨(dshiftUndefinedState r.w r.dst s).withIntShadow false, s.draw r.w.bits 0,
    (exec_dshiftRow_pass hr havail hacc).trans ((if_neg h0).trans (if_pos hw)), hcompletes, hholds,
    controlFlagsKept_undefinedFlags ..⟩

/-! ## A register with itself (R316) -/

section
variable {w : Nat} (x : BitVec w) {c : Nat}

theorem dshiftResult_shld_self (hc : c < w) : dshiftResult .shld x x c = x.rotateLeft c := by
  rw [BitVec.rotateLeft, Nat.mod_eq_of_lt hc]
  rfl

theorem dshiftResult_shrd_self (hc : c < w) : dshiftResult .shrd x x c = x.rotateRight c := by
  rw [BitVec.rotateRight, Nat.mod_eq_of_lt hc]
  rfl

end

/-- Settles O54: the two parts joined are those of a rotation. -/
theorem sameRegisterRotates : Obligations.SameRegisterRotates := by
  intro i s op w n count hr havail hc hw
  obtain ⟨_, hread, _, _⟩ := dshiftRowState_holds ⟨op, w, .reg n, n, count⟩ s
  refine ⟨_, exec_dshiftRow_below_width hr havail trivial (Nat.one_le_iff_ne_zero.mp hc) hw, hread.trans ?_⟩
  cases op with
  | shld => exact dshiftResult_shld_self (s.readReg w n) hw
  | shrd => exact dshiftResult_shrd_self (s.readReg w n) hw

/-! ## 64-bit shifts (R317) -/

section
variable {w : Nat} (hi lo : BitVec w) {c : Nat}

/-- The bits that SHL shifts out of the low half are those that SHLD shifts into the high one. -/
theorem dshiftResult_append_shiftResult (hc : c ≤ w) :
    dshiftResult .shld hi lo c ++ shiftResult .shl lo c = shiftResult .shl (hi ++ lo) c := by
  rw [shiftResult, shiftResult]
  apply BitVec.eq_of_getLsbD_eq
  intro i hbit
  rw [BitVec.getLsbD_append, BitVec.getLsbD_shiftLeft, BitVec.getLsbD_shiftLeft, BitVec.getLsbD_append]
  by_cases hlow : i < w
  · simp [hlow, hbit, show i - c < w by omega]
  · rw [if_neg hlow, getLsbD_dshiftResult .shld hi lo hc (by omega), dshiftBit]
    by_cases h : c ≤ i - w
    · simp [h, hbit, show ¬ i < c by omega, show ¬ i - c < w by omega, show i - w - c = i - c - w by omega]
    · simp [h, hbit, show ¬ i < c by omega, show i - c < w by omega, show i - w + w - c = i - c by omega]

end

/-- A shift to the right: the bits from `c` up, and above them zeros or copies of the sign. -/
theorem getLsbD_shiftResult_right {w : Nat} {op : ShiftOp} (hop : op ≠ .shl) (x : BitVec w) (c : Nat) {i : Nat}
    (hi : i < w) :
    (shiftResult op x c).getLsbD i = if c + i < w then x.getLsbD (c + i) else op == .sar && x.msb := by
  cases op with
  | shl => exact absurd rfl hop
  | sar =>
    rw [shiftResult, BitVec.getLsbD_sshiftRight]
    simp [hi.not_ge]
  | shr =>
    rw [shiftResult, BitVec.getLsbD_ushiftRight]
    split
    · rfl
    · exact BitVec.getLsbD_of_ge x (c + i) (by omega)

/-- The bits that SHR or SAR shifts out of the high half are those that SHRD shifts into the low one. -/
theorem shiftResult_append_dshiftResult {w : Nat} {op : ShiftOp} (hop : op ≠ .shl) (hi lo : BitVec w) {c : Nat}
    (hc : c < w) : shiftResult op hi c ++ dshiftResult .shrd lo hi c = shiftResult op (hi ++ lo) c := by
  have hmsb : (hi ++ lo).msb = hi.msb := by rw [BitVec.msb_append, if_neg (by omega)]
  apply BitVec.eq_of_getLsbD_eq
  intro i hbit
  rw [BitVec.getLsbD_append, getLsbD_shiftResult_right hop (hi ++ lo) c hbit, BitVec.getLsbD_append, hmsb]
  by_cases hlow : i < w
  · rw [if_pos hlow, getLsbD_dshiftResult .shrd lo hi hc.le hlow, dshiftBit, if_pos (show c + i < w + w by omega),
      Nat.add_comm i c]
  · rw [if_neg hlow, getLsbD_shiftResult_right hop hi c (by omega), if_neg (show ¬ c + i < w by omega),
      show c + (i - w) = c + i - w by omega]
    simp only [show c + i - w < w ↔ c + i < w + w by omega]

/-- The state after a shift row by a masked count of at least 1, with IntShadow clear. -/
def shiftRowState (r : ShiftRow) (s : State) : State :=
  (shiftState r.w r.op r.dst (shiftCount s r.count) s).withIntShadow false

theorem exec_shiftRow_nonzero {i : Instr} {r : ShiftRow} {s : State} (hr : shiftRow i = some r)
    (havail : Available s r.w) (hacc : RmAccessible s r.dst r.w.bytes .readwrite) (h0 : shiftCount s r.count ≠ 0) :
    exec i s = .next (shiftRowState r s) :=
  (exec_shiftRow_pass hr havail hacc).trans (if_neg h0)

/-- A double shift between 32-bit registers changes no register but its destination. -/
theorem dshiftRowState_reg32 (op : DoubleShiftOp) (n m k : RegNum) (count : Count) (s : State) :
    (dshiftRowState ⟨op, .w32, .reg n, m, count⟩ s).reg32 k =
      if k = n then dshiftResult op (s.reg32 n) (s.reg32 m) (count.raw s % 32) else s.reg32 k :=
  reg32_setReg32 s n k _

/-- A shift of a 32-bit register changes no other register. -/
theorem shiftRowState_reg32 (op : ShiftOp) (n k : RegNum) (count : Count) (s : State) :
    (shiftRowState ⟨op, .w32, .reg n, count⟩ s).reg32 k =
      if k = n then shiftResult op (s.reg32 n) (shiftCount s count) else s.reg32 k :=
  reg32_setReg32 s n k _

/-- Below the width CF is defined for every shift. -/
theorem shiftRowState_cf {r : ShiftRow} {s : State} (h : shiftCount s r.count < r.w.bits) :
    (shiftRowState r s).flags.cf = shiftCarry r.op (readRm s r.w r.dst) (shiftCount s r.count) :=
  if_neg (by rw [shiftCarryUndefined_eq_false (.inr h)]; decide)

/-- Of the registers a count reads ECX alone. -/
theorem count_raw_congr {s t : State} (count : Count) (h : count = .cl → t.reg32 1#3 = s.reg32 1#3) :
    count.raw t = count.raw s := by
  cases count with
  | cl =>
    have hread (u : State) : u.readReg .w8 1#3 = (u.reg32 1#3).extractLsb' 0 8 := rfl
    rw [Count.raw, Count.raw, hread, hread, h rfl]
  | one => rfl
  | imm b => rfl

/-- A double shift into `a` out of `b`, then a shift of `b` by the same count: the first leaves `b` and the count to the
second, which leaves `a`. -/
theorem exec_dshiftRow_shiftRow {s : State} {i j : Instr} {dop : DoubleShiftOp} {sop : ShiftOp} {a b : RegNum}
    {count : Count} (h32 : s.cfg.procGen.has32 = true) (hab : a ≠ b) (hcl : count = .cl → a ≠ 1#3)
    (hc : count.raw s % 32 ≠ 0) (hi : dshiftRow i = some ⟨dop, .w32, .reg a, b, count⟩)
    (hj : shiftRow j = some ⟨sop, .w32, .reg b, count⟩) :
    ∃ t u, exec i s = .next t ∧ exec j t = .next u ∧
      u.reg32 a = dshiftResult dop (s.reg32 a) (s.reg32 b) (count.raw s % 32) ∧
      u.reg32 b = shiftResult sop (s.reg32 b) (count.raw s % 32) ∧
      u.flags.cf = shiftCarry sop (s.reg32 b) (count.raw s % 32) := by
  let t := dshiftRowState ⟨dop, .w32, .reg a, b, count⟩ s
  let u := shiftRowState ⟨sop, .w32, .reg b, count⟩ t
  have hlt : count.raw s % 32 < 32 := Nat.mod_lt _ (by decide)
  have ht (k : RegNum) : t.reg32 k = _ := dshiftRowState_reg32 dop a b k count s
  have hb : t.reg32 b = s.reg32 b := (ht b).trans (if_neg hab.symm)
  have ht32 : t.cfg.procGen.has32 = true := h32
  have hgen : t.cfg.procGen ≠ .i8086 := fun h => by rw [h] at ht32; cases ht32
  have hcount : shiftCount t count = count.raw s % 32 := by
    rw [shiftCount_of_masked count hgen, count_raw_congr count fun h => (ht 1#3).trans (if_neg (hcl h).symm)]
  have hu (k : RegNum) : u.reg32 k = _ := shiftRowState_reg32 sop b k count t
  have hcf : u.flags.cf = shiftCarry sop (t.reg32 b) (shiftCount t count) := shiftRowState_cf (hcount ▸ hlt)
  rw [hcount] at hu hcf
  rw [hb] at hu hcf
  exact ⟨t, u, exec_dshiftRow_below_width hi (fun _ => h32) trivial hc hlt,
    exec_shiftRow_nonzero hj (fun _ => ht32) trivial (hcount ▸ hc),
    (hu a).trans ((if_neg hab).trans ((ht a).trans (if_pos rfl))), (hu b).trans (if_pos rfl), hcf⟩

/-- SHRD, then SHR or SAR by `op`: the halves that the pair leaves are those of the 64-bit shift. -/
theorem exec_shrd_shiftRow {s : State} {i j : Instr} {op : ShiftOp} {hi lo : RegNum} {count : Count} (hop : op ≠ .shl)
    (h32 : s.cfg.procGen.has32 = true) (hne : lo ≠ hi) (hcl : count = .cl → lo ≠ 1#3) (hc : count.raw s % 32 ≠ 0)
    (hdouble : dshiftRow i = some ⟨.shrd, .w32, .reg lo, hi, count⟩)
    (hshift : shiftRow j = some ⟨op, .w32, .reg hi, count⟩) :
    ∃ t u, exec i s = .next t ∧ exec j t = .next u ∧
      u.reg32 hi ++ u.reg32 lo = shiftResult op (s.reg32 hi ++ s.reg32 lo) (count.raw s % 32) ∧
      u.flags.cf = shiftCarry op (s.reg32 hi) (count.raw s % 32) := by
  obtain ⟨t, u, ht, hu, hlow, hhigh, hcf⟩ := exec_dshiftRow_shiftRow h32 hne hcl hc hdouble hshift
  refine ⟨t, u, ht, hu, ?_, hcf⟩
  rw [hhigh, hlow]
  exact shiftResult_append_dshiftResult hop (s.reg32 hi) (s.reg32 lo) (Nat.mod_lt _ (by decide))

/-- SHLD, then SAL or SHL: the halves that the pair leaves are those of the 64-bit shift. -/
theorem exec_shld_shiftRow {s : State} {i j : Instr} {hi lo : RegNum} {count : Count}
    (h32 : s.cfg.procGen.has32 = true) (hne : hi ≠ lo) (hcl : count = .cl → hi ≠ 1#3) (hc : count.raw s % 32 ≠ 0)
    (hdouble : dshiftRow i = some ⟨.shld, .w32, .reg hi, lo, count⟩)
    (hshift : shiftRow j = some ⟨.shl, .w32, .reg lo, count⟩) :
    ∃ t u, exec i s = .next t ∧ exec j t = .next u ∧
      u.reg32 hi ++ u.reg32 lo = shiftResult .shl (s.reg32 hi ++ s.reg32 lo) (count.raw s % 32) ∧
      u.flags.cf = shiftCarry .shl (s.reg32 lo) (count.raw s % 32) := by
  obtain ⟨t, u, ht, hu, hhigh, hlow, hcf⟩ := exec_dshiftRow_shiftRow h32 hne hcl hc hdouble hshift
  refine ⟨t, u, ht, hu, ?_, hcf⟩
  rw [hhigh, hlow]
  exact dshiftResult_append_shiftResult (s.reg32 hi) (s.reg32 lo) (Nat.mod_lt _ (by decide)).le

/-- Settles O51: each pair is the 64-bit shift of its second instruction, whose CF at these counts is the bit named. -/
theorem multiwordShift : Obligations.MultiwordShift := by
  intro s hi lo count i j h32 hne hcl hc x c
  have hle : c ≤ 32 := (Nat.mod_lt _ (by decide)).le
  refine ⟨fun hdouble hshift => ?shl, fun hdouble hshift => ?shr, fun hdouble hshift => ?sar⟩
  case shl =>
    obtain ⟨t, u, ht, hu, hx, hcf⟩ := exec_shld_shiftRow h32 hne (fun h => (hcl h).1) hc hdouble hshift
    exact ⟨t, u, ht, hu, hx, hcf.trans (shiftCarry_shl_of_le (s.reg32 lo) hle)⟩
  case shr => exact exec_shrd_shiftRow (op := .shr) nofun h32 hne.symm (fun h => (hcl h).2) hc hdouble hshift
  case sar =>
    obtain ⟨t, u, ht, hu, hx, hcf⟩ :=
      exec_shrd_shiftRow (op := .sar) nofun h32 hne.symm (fun h => (hcl h).2) hc hdouble hshift
    exact ⟨t, u, ht, hu, hx, hcf.trans (shiftCarry_sar_of_le (s.reg32 hi) hle)⟩

end Sys2Proof.Machine
end

section
/-! PROOFS. The family 30_encoding.md, continued: decoding reads an instruction and nothing after it (R119), so bytes
that end inside an encoding are cut short. -/

namespace Sys2Proof

open Machine.Ref

/-! ## Decoding with more bytes -/

/-- A decoder that, given more bytes, answers what it did with those bytes left over, unless it was cut short. -/
def steady (d : List Byte → Decoded) : Prop :=
  ∀ bs more, d bs = .error .truncated ∨ d (bs ++ more) = (d bs).map fun p => (p.1, p.2 ++ more)

theorem steady_ok (i : Instr) : steady fun bs => .ok (i, bs) := fun _ _ => .inr rfl

theorem steady_error (e : DecodeStop) : steady fun _ => .error e := fun _ _ => .inr rfl

theorem steady_ite {c : Prop} [Decidable c] {d e : List Byte → Decoded} (hd : steady d) (he : steady e) :
    steady fun bs => if c then d bs else e bs := by
  split
  · exact hd
  · exact he

/-! ### The parts of an instruction (R93, R100 to R102) -/

theorem steady_take8 {k : Byte → List Byte → Decoded} (h : ∀ b, steady (k b)) : steady fun bs => take8 bs k := by
  intro bs more
  match bs with
  | [] => exact .inl rfl
  | b :: r => exact h b r more

theorem steady_take16 {k : Word16 → List Byte → Decoded} (h : ∀ d, steady (k d)) : steady fun bs => take16 bs k := by
  intro bs more
  match bs with
  | [] => exact .inl rfl
  | [_] => exact .inl rfl
  | b0 :: b1 :: r => exact h (b1 ++ b0) r more

theorem steady_take32 {k : Word32 → List Byte → Decoded} (h : ∀ d, steady (k d)) : steady fun bs => take32 bs k := by
  intro bs more
  match bs with
  | [] => exact .inl rfl
  | [_] => exact .inl rfl
  | [_, _] => exact .inl rfl
  | [_, _, _] => exact .inl rfl
  | b0 :: b1 :: b2 :: b3 :: r => exact h (b3 ++ b2 ++ b1 ++ b0) r more

section
variable (mod : BitVec 2) (rm : RegNum) {k : EffAddr → List Byte → Decoded} (hk : ∀ ea, steady (k ea))
include hk

theorem steady_withAddr16 : steady fun bs => withAddr16 mod rm bs k :=
  steady_ite
    (steady_ite (steady_take16 fun _ => hk _) (hk _))
    (steady_ite (steady_take8 fun _ => hk _) (steady_take16 fun _ => hk _))

theorem steady_withSib : steady fun bs => withSib mod bs k :=
  steady_take8 fun _ => steady_ite
    (steady_ite (steady_take32 fun _ => hk _) (hk _))
    (steady_ite (steady_take8 fun _ => hk _) (steady_take32 fun _ => hk _))

theorem steady_withAddr32 : steady fun bs => withAddr32 mod rm bs k :=
  steady_ite (steady_withSib mod hk) <| steady_ite
    (steady_ite (steady_take32 fun _ => hk _) (hk _))
    (steady_ite (steady_take8 fun _ => hk _) (steady_take32 fun _ => hk _))

end

section
variable (osz asz : Size) (seg : Option SegName)

theorem steady_withRm (mod : BitVec 2) (rm : RegNum) {k : RM → List Byte → Decoded} (hk : ∀ a, steady (k a)) :
    steady fun bs => withRm asz seg mod rm bs k := by
  refine steady_ite (hk (.reg rm)) ?_
  cases asz with
  | s16 => exact steady_withAddr16 mod rm fun ea => hk (.mem ⟨ea, seg⟩)
  | s32 => exact steady_withAddr32 mod rm fun ea => hk (.mem ⟨ea, seg⟩)

theorem steady_withModRM {k : RegNum → RM → List Byte → Decoded} (hk : ∀ reg a, steady (k reg a)) :
    steady fun bs => withModRM asz seg bs k :=
  steady_take8 fun m => steady_withRm asz seg (modField m) (rmField m) (hk (regField m))

/-- A group is steady where each of its rows is. -/
theorem steady_withGroup {rows : RegNum → Option (RM → List Byte → Decoded)}
    (hrows : ∀ digit, ∀ k ∈ rows digit, ∀ a, steady (k a)) : steady fun bs => withGroup asz seg bs rows := by
  refine steady_take8 fun m => ?_
  cases hk : rows (regField m) with
  | none => exact steady_error .notInScope
  | some k => exact steady_withRm asz seg (modField m) (rmField m) (hrows _ k hk)

/-! ### The rows (R112, R113) -/

theorem steady_done (f : RM → Instr) (rm : RM) : steady (done f rm) := steady_ok (f rm)

theorem steady_thenIb (f : RM → Byte → Instr) (rm : RM) : steady (thenIb f rm) := steady_take8 fun d => steady_ok (f rm d)

theorem steady_thenIwd (f : RM → Word16 → Instr) (g : RM → Word32 → Instr) (rm : RM) : steady (thenIwd osz f g rm) := by
  cases osz with
  | s16 => exact steady_take16 fun d => steady_ok (f rm d)
  | s32 => exact steady_take32 fun d => steady_ok (g rm d)

theorem steady_shiftGroup {shl shr sar : RM → List Byte → Decoded} (hshl : ∀ a, steady (shl a))
    (hshr : ∀ a, steady (shr a)) (hsar : ∀ a, steady (sar a)) (digit : RegNum) :
    ∀ k ∈ shiftGroup shl shr sar digit, ∀ a, steady (k a) := by
  unfold shiftGroup
  split <;> simp_all

theorem steady_subGroup {sbb sub : RM → List Byte → Decoded} (hsbb : ∀ a, steady (sbb a)) (hsub : ∀ a, steady (sub a))
    (digit : RegNum) : ∀ k ∈ subGroup sbb sub digit, ∀ a, steady (k a) := by
  unfold subGroup
  split <;> simp_all

theorem steady_group0F00 (digit : RegNum) : ∀ k ∈ group0F00 osz digit, ∀ a, steady (k a) := by
  unfold group0F00
  split <;> simp [steady_done]

theorem steady_group0F01 (digit : RegNum) : ∀ k ∈ group0F01 osz digit, ∀ a, steady (k a) := by
  unfold group0F01
  split <;> simp [steady_done]

/-- A row with a register and an `r/m` operand, and nothing after them. -/
theorem steady_operands (f : RegNum → RM → Instr) :
    steady fun bs => withModRM asz seg bs fun reg rm r => .ok (f reg rm, r) :=
  steady_withModRM asz seg fun reg rm => steady_ok (f reg rm)

/-- A row with a register and an `r/m` operand, and an imm8 after them. -/
theorem steady_operands_imm8 (f : RegNum → RM → Byte → Instr) :
    steady fun bs => withModRM asz seg bs fun reg rm r => take8 r fun d r => .ok (f reg rm d, r) :=
  steady_withModRM asz seg fun reg rm => steady_take8 fun d => steady_ok (f reg rm d)

/-- A row of the accumulator and an immediate of the operand size. -/
theorem steady_accumulator (f : Word16 → Instr) (g : Word32 → Instr) : steady fun bs =>
    match osz with
    | .s16 => take16 bs fun d r => .ok (f d, r)
    | .s32 => take32 bs fun d r => .ok (g d, r) := by
  cases osz with
  | s16 => exact steady_take16 fun d => steady_ok (f d)
  | s32 => exact steady_take32 fun d => steady_ok (g d)

theorem steady_decodeTwoByte (op : Byte) : steady (decodeTwoByte osz asz seg op) := by
  by_cases hop : op ∈ twoByteOpcodes
  · simp only [twoByteOpcodes, List.cons_append, List.nil_append, List.mem_cons, List.not_mem_nil, or_false] at hop
    rcases hop with rfl | rfl | rfl | rfl | rfl | rfl | rfl | rfl | rfl | rfl | rfl | rfl | rfl | rfl | rfl | rfl | rfl |
      rfl | rfl | rfl | rfl | rfl | rfl | rfl
    · exact steady_withGroup asz seg (steady_group0F00 osz)
    · exact steady_withGroup asz seg (steady_group0F01 osz)
    -- SYSENTER and SYSEXIT.
    iterate 2 exact steady_ok _
    -- SETcc.
    iterate 16 exact steady_withModRM asz seg fun _ => steady_done _
    -- SHLD and SHRD, by imm8 and by CL.
    · exact steady_operands_imm8 asz seg fun reg rm d => osz.pick (.shldRm16R16Imm8 rm reg d) (.shldRm32R32Imm8 rm reg d)
    · exact steady_operands asz seg fun reg rm => osz.pick (.shldRm16R16Cl rm reg) (.shldRm32R32Cl rm reg)
    · exact steady_operands_imm8 asz seg fun reg rm d => osz.pick (.shrdRm16R16Imm8 rm reg d) (.shrdRm32R32Imm8 rm reg d)
    · exact steady_operands asz seg fun reg rm => osz.pick (.shrdRm16R16Cl rm reg) (.shrdRm32R32Cl rm reg)
  · rw [funext (decodeTwoByte_of_not_mem osz asz seg hop)]
    exact steady_error .notInScope

theorem steady_decodeOpcode (op : Byte) : steady (decodeOpcode osz asz seg op) := by
  by_cases hesc : op = 0x0F#8
  · subst hesc
    exact steady_take8 fun op2 => steady_decodeTwoByte osz asz seg op2
  by_cases hop : op ∈ oneByteOpcodes
  · simp only [oneByteOpcodes, List.cons_append, List.nil_append, List.mem_cons, List.not_mem_nil, or_false] at hop
    rcases hop with rfl | rfl | rfl | rfl | rfl | rfl | rfl | rfl | rfl | rfl | rfl | rfl | rfl | rfl | rfl | rfl | rfl |
      rfl | rfl | rfl | rfl | rfl | rfl | rfl | rfl | rfl | rfl | rfl | rfl
    -- SBB and SUB with a register or the accumulator.
    · exact steady_operands asz seg fun reg rm => .sbbRm8R8 rm reg
    · exact steady_operands asz seg fun reg rm => osz.pick (.sbbRm16R16 rm reg) (.sbbRm32R32 rm reg)
    · exact steady_operands asz seg fun reg rm => .sbbR8Rm8 reg rm
    · exact steady_operands asz seg fun reg rm => osz.pick (.sbbR16Rm16 reg rm) (.sbbR32Rm32 reg rm)
    · exact steady_take8 fun d => steady_ok (.sbbAlImm8 d)
    · exact steady_accumulator osz .sbbAxImm16 .sbbEaxImm32
    · exact steady_operands asz seg fun reg rm => .subRm8R8 rm reg
    · exact steady_operands asz seg fun reg rm => osz.pick (.subRm16R16 rm reg) (.subRm32R32 rm reg)
    · exact steady_operands asz seg fun reg rm => .subR8Rm8 reg rm
    · exact steady_operands asz seg fun reg rm => osz.pick (.subR16Rm16 reg rm) (.subR32Rm32 reg rm)
    · exact steady_take8 fun d => steady_ok (.subAlImm8 d)
    · exact steady_accumulator osz .subAxImm16 .subEaxImm32
    -- SBB and SUB with an immediate.
    · exact steady_withGroup asz seg (steady_subGroup (steady_thenIb _) (steady_thenIb _))
    · exact steady_withGroup asz seg (steady_subGroup (steady_thenIwd osz _ _) (steady_thenIwd osz _ _))
    · exact steady_withGroup asz seg (steady_subGroup (steady_thenIb _) (steady_thenIb _))
    -- SAHF and the string forms.
    iterate 5 exact steady_ok _
    -- The shifts by imm8, by 1 and by CL.
    iterate 2
      exact steady_withGroup asz seg (steady_shiftGroup (steady_thenIb _) (steady_thenIb _) (steady_thenIb _))
    iterate 4 exact steady_withGroup asz seg (steady_shiftGroup (steady_done _) (steady_done _) (steady_done _))
    -- STC, STI and STD.
    iterate 3 exact steady_ok _
  · rw [funext (decodeOpcode_of_not_mem osz asz seg hop hesc)]
    exact steady_error .notInScope

end

/-! ### Whole instructions (R119) -/

/-- More bytes do not change a run of prefix bytes that another byte has ended. -/
theorem takePrefixes_append {p q : Prefixes} {bs r : List Byte} {op : Byte} (h : takePrefixes p bs = (q, op :: r))
    (more : List Byte) : takePrefixes p (bs ++ more) = (q, op :: (r ++ more)) := by
  induction bs generalizing p with
  | nil => cases h
  | cons b bs ih =>
    rw [List.cons_append, takePrefixes]
    rw [takePrefixes] at h
    cases hb : p.add b with
    | some p' =>
      rw [hb] at h
      exact ih h
    | none =>
      rw [hb] at h
      cases h
      rfl

theorem steady_decode (dflt : Size) : steady (decode dflt) := by
  intro bs more
  unfold decode
  cases hp : takePrefixes .empty bs with
  | mk q l =>
    cases l with
    | nil => exact .inl rfl
    | cons op r =>
      rw [takePrefixes_append hp more]
      exact steady_ite (steady_error .lockPrefix)
        (steady_ite (steady_error .repPrefix) (steady_decodeOpcode _ _ _ op)) r more

/-- Bytes that end before an instruction does are cut short, whatever instruction it is. -/
theorem decode_truncated {dflt : Size} {bs more : List Byte} {i : Instr} (hmore : more ≠ [])
    (h : decode dflt (bs ++ more) = .ok (i, [])) : decode dflt bs = .error .truncated := by
  refine (steady_decode dflt bs more).resolve_right fun he => ?_
  rw [h] at he
  cases hd : decode dflt bs with
  | error e =>
    rw [hd] at he
    cases he
  | ok p =>
    rw [hd] at he
    have hleft : ([] : List Byte) = p.2 ++ more := congrArg Prod.snd (Except.ok.inj he)
    exact hmore (List.append_eq_nil_iff.mp hleft.symm).2

theorem decode_take_encode (dflt : Size) {i : Instr} (hwf : i.wf = true) {m : Nat} (hm : m < (encode dflt i).length) :
    decode dflt ((encode dflt i).take m) = .error .truncated := by
  refine decode_truncated (more := (encode dflt i).drop m) (i := i.canon) ?_ ?_
  · rw [Ne, List.drop_eq_nil_iff]
    exact hm.not_ge
  · rw [List.take_append_drop, ← List.append_nil (encode dflt i)]
    exact decodeEncode dflt i [] hwf

end Sys2Proof
end

section
/-! PROOFS. The family 47_sldt_smsw.md: the store of 16 bits that SLDT, SMSW and STR share, at both operand sizes, and what
SLDT (R326 to R328) and SMSW (R336, R337, R339) store. -/

namespace Sys2Proof.Machine

open Ref

/-! ## The store of 16 bits -/

/-- An answer that stores `v` in `dst` at an operand size and changes nothing else, `high` holding of the high half where
there is one. -/
def storesWord (s : State) (osz : Size) (dst : RM) (v : Word16) (high : Word16 → Prop) (answer : Result) : Prop :=
  ∃ t, answer = .next t ∧ completes s t ∧ t.flags = s.flags ∧ wordStored s t osz dst v high

theorem storeWord_stores {s : State} {dst : RM} (hacc : RmAccessible s dst 2 .write) (v : Word16) :
    completes s ((writeRm s .w16 dst v).withIntShadow false) ∧
      dstHolds s ((writeRm s .w16 dst v).withIntShadow false) .w16 dst v ∧
      storeWord dst v s = .next ((writeRm s .w16 dst v).withIntShadow false) := by
  have hpass : storeWord dst v s = complete (writeRm s .w16 dst v) := withRmAccess_of_accessible hacc
  have hsame : ((writeRm s .w16 dst v).withFlags s.flags).withDraws s.draws = writeRm s .w16 dst v := by
    cases dst with
    | reg n => rfl
    | mem m => rfl
  have hholds := writeRm_holds s .w16 dst v s.flags s.draws
  rw [hsame] at hholds
  exact ⟨hholds.1, hholds.2, hpass⟩

theorem storesWord_storeWord {s : State} {dst : RM} (hacc : RmAccessible s dst 2 .write) (v : Word16)
    (high : Word16 → Prop) : storesWord s .s16 dst v high (storeWord dst v s) := by
  obtain ⟨hcompletes, hholds, hnext⟩ := storeWord_stores hacc v
  exact ⟨_, hnext, hcompletes, (writeRm_fields s .w16 dst v).1, hholds⟩

/-- With OperandSize 32 a register takes both halves, memory the low one alone. -/
theorem storesWord_storeWordHigh {s : State} {dst : RM} (hacc : RmAccessible s dst 2 .write) (v : Word16) {h : Word16}
    {high : Word16 → Prop} (hhigh : high h) (draws : Nat) :
    storesWord s .s32 dst v high (storeWordHigh dst h v draws s) := by
  cases dst with
  | reg n =>
    obtain ⟨hcompletes, hreg, hregs, hmem⟩ := writeRm_holds s .w32 (.reg n) (h ++ v) s.flags (s.draws + draws)
    exact ⟨_, rfl, hcompletes, rfl, ⟨h, hhigh, hreg⟩, hregs, hmem⟩
  | mem m => exact storesWord_storeWord hacc v high

/-! ## SLDT (R326 to R328) -/

theorem has32_eq_false_iff (g : ProcGen) : g.has32 = false ↔ g = .i8086 ∨ g = .i286 := by
  cases g <;> decide

theorem need32_refuse {s : State} (h : s.cfg.procGen.has32 = false) (go : Result) :
    need32 s .w32 go = .refused .no32BitOperands := if_pos ⟨rfl, h⟩

theorem execSldtRm16_stores {s : State} {dst : RM} (hmode : s.mode = .protectedMode)
    (hacc : RmAccessible s dst 2 .write) (high : Word16 → Prop) :
    storesWord s .s16 dst s.ldtr high (execSldtRm16 dst s) := by
  rw [execSldtRm16, protectedOnly_pass hmode]
  exact storesWord_storeWord hacc s.ldtr high

/-- The processors that draw the high half are none of the two that clear it. -/
theorem execSldtRm32_stores {s : State} {dst : RM} (hmode : s.mode = .protectedMode)
    (h32 : s.cfg.procGen.has32 = true) (hacc : RmAccessible s dst 2 .write) :
    storesWord s .s32 dst s.ldtr (fun h => s.cfg.procGen = .pentiumPro ∨ s.cfg.procGen = .pentiumII → h = 0#16)
      (execSldtRm32 dst s) := by
  rw [execSldtRm32, need32_pass fun _ => h32, protectedOnly_pass hmode]
  split
  · rename_i hopen
    refine storesWord_storeWordHigh hacc s.ldtr (fun hg => ?_) 1
    rcases hg with hg | hg <;> simp [hg, sldtHighUndefined] at hopen
  · exact storesWord_storeWordHigh hacc s.ldtr (fun _ => rfl) 0

/-- Settles O34: past the checks of processor and mode, SLDT is the store of LDTR. -/
theorem sldtCompletes : Obligations.SldtCompletes := fun _ _ hmode =>
  ⟨fun hacc => execSldtRm16_stores hmode hacc _, fun h32 hacc => execSldtRm32_stores hmode h32 hacc,
    fun hg => need32_refuse ((has32_eq_false_iff _).mpr hg) _⟩

/-! ## SMSW (R336, R337, R339) -/

/-- CR0[15:0] as a number. -/
theorem extractLow16_eq (x : Word32) : x.extractLsb' 0 16 = BitVec.ofNat 16 (x.toNat % 65536) :=
  BitVec.eq_of_toNat_eq (by simp)

/-- Settles O35: SMSW is the store of CR0[15:0] with no check of processor or mode. -/
theorem smswCompletes : Obligations.SmswCompletes := by
  intro dst s hacc
  rw [← extractLow16_eq]
  exact ⟨storesWord_storeWord hacc _ _, storesWord_storeWordHigh hacc _ trivial 1⟩

end Sys2Proof.Machine
end

section
/-! PROOFS. The family 48_stc_std_sti_stos_str.md: STC and STD on the EFLAGS word (R345, R350), the decision table of STI
(R355, R356, R358), the six rows of STOS (R364) and the store of STR (R375, R376). -/

namespace Sys2Proof.Machine

open Ref

/-! ## STC and STD (R345, R350) -/

theorem toWord_setCf (f : Eflags) : { f with cf := true }.toWord = f.toWord ||| 0x00000001#32 := by
  apply BitVec.eq_of_getLsbD_eq
  intro i hi
  rw [BitVec.getLsbD_or, Eflags.toWord_getLsbD, Eflags.toWord_getLsbD]
  interval_cases i <;> simp

theorem toWord_setDf (f : Eflags) : { f with df := true }.toWord = f.toWord ||| 0x00000400#32 := by
  apply BitVec.eq_of_getLsbD_eq
  intro i hi
  rw [BitVec.getLsbD_or, Eflags.toWord_getLsbD, Eflags.toWord_getLsbD]
  interval_cases i <;> simp

/-- Settles O38: both write flags alone, and the EFLAGS word differs in the one bit. -/
theorem stcAndStdComplete : Obligations.StcAndStdComplete := fun s =>
  ⟨⟨_, rfl, completes_withFlags s _, regsKept_withFlags s _, memKept_withFlags s _, toWord_setCf s.flags⟩,
    ⟨_, rfl, completes_withFlags s _, regsKept_withFlags s _, memKept_withFlags s _, toWord_setDf s.flags⟩⟩

/-! ## STI (R355, R356, R358) -/

/-- The model's test is the decision table, mode by mode. -/
theorem stiAllowed_iff (s : State) : stiAllowed s = true ↔ stiMay s := by
  unfold stiAllowed stiMay State.mode
  cases s.pe <;> cases s.flags.vm <;> simp

theorem execSti_of_may {s : State} (h : stiMay s) :
    execSti s = .next ((s.withFlags { s.flags with ifl := true }).withIntShadow (!s.flags.ifl)) :=
  if_pos ((stiAllowed_iff s).mpr h)

theorem execSti_of_not_may {s : State} (h : ¬ stiMay s) : execSti s = raise (.gp (some 0)) :=
  if_neg (mt (stiAllowed_iff s).mp h)

/-- Settles O39, by the two sides of the decision table. -/
theorem stiDecisionTable : Obligations.StiDecisionTable := by
  refine fun s => ⟨fun hmay => ⟨_, execSti_of_may hmay, ?_⟩, execSti_of_not_may⟩
  obtain ⟨hsystem, hring, _⟩ := completes_withFlags s { s.flags with ifl := true }
  exact ⟨hsystem, hring, fun _ => rfl, fun _ => rfl, rfl, by simp⟩

/-! ## STOS (R364, R366 to R371) -/

/-- The state after STOS: the accumulator stored at ES:(E)DI, the step, and IntShadow clear. -/
def stosState (w : Width) (asz : Size) (s : State) : State :=
  (stepDi (s.writeLoc w (stringOperand s asz) (s.readReg w 0#3)) asz w).withIntShadow false

/-- Every row once its check has passed. -/
theorem exec_stosRow_pass {i : Instr} {w : Width} {asz : Size} {s : State} (hr : stosRow i = some (w, asz))
    (havail : Available s w) (hacc : Accessible s (stringOperand s asz) w.bytes .write) :
    exec i s = .next (stosState w asz s) := by
  rw [exec_stosRow hr, stos, need32_pass havail, stringLoc_eq_stringOperand, withAccess_of_accessible hacc]
  rfl

@[simp] theorem stepDi_mem (s : State) (asz : Size) (w : Width) : (stepDi s asz w).mem = s.mem := by
  obtain ⟨g, hg, _⟩ := stepDi_eq s asz w
  rw [hg, State.withGpr_mem]

@[simp] theorem stepDi_seg (s : State) (asz : Size) (w : Width) (n : SegName) : (stepDi s asz w).seg n = s.seg n := by
  obtain ⟨g, hg, _⟩ := stepDi_eq s asz w
  rw [hg, State.withGpr_seg]

section
variable (w : Width) (asz : Size) (s : State)

theorem stosState_completes : completes s (stosState w asz s) := by
  obtain ⟨g, hg, _⟩ := stepDi_eq (s.writeLoc w (stringOperand s asz) (s.readReg w 0#3)) asz w
  rw [stosState, hg]
  simp [completes, systemKept, ringKept, State.writeLoc]

theorem stosState_flags : (stosState w asz s).flags = s.flags := stepDi_flags ..

/-- The step writes no memory, so what was stored stays. -/
theorem stosState_readsAs : readsAs (stosState w asz s) w (stringOperand s asz) (s.readReg w 0#3) :=
  readsAs_of_writeLoc (fun x => by simp [stosState, State.writeLoc]) (stepDi_mem ..)

/-- The store writes neither (E)DI nor DF, so the step is that of the state before it. -/
theorem stosState_ediStepped : ediStepped s (stosState w asz s) w asz :=
  ediStepped_stepDi (s.writeLoc w (stringOperand s asz) (s.readReg w 0#3)) asz w

theorem stosState_memKeptOutside : memKeptOutside s (stosState w asz s) (stringOperand s asz) w.bytes := fun a h =>
  (stepDi_heldAt ..).trans (heldAt_writeLoc_outside s w (stringOperand s asz) _ a h)

end

/-- Settles O30: past the check the state is `stosState`. -/
theorem stosCompletes : Obligations.StosCompletes := fun _ w asz s hr havail hacc =>
  ⟨stosState w asz s, exec_stosRow_pass hr havail hacc, stosState_completes w asz s, stosState_flags w asz s,
    stosState_readsAs w asz s, stosState_ediStepped w asz s, stosState_memKeptOutside w asz s⟩

/-! ## STR (R375, R376) -/

/-- Settles O36: in protected mode STR is the store of TR, under a zero high half. -/
theorem strCompletes : Obligations.StrCompletes := by
  intro osz dst s hmode hacc
  change storesWord s osz dst s.tr (fun h => h = 0#16) (execStrRm16 osz dst s)
  cases osz with
  | s16 =>
    rw [execStrRm16, protectedOnly_pass hmode]
    exact storesWord_storeWord hacc s.tr _
  | s32 =>
    rw [execStrRm16, protectedOnly_pass hmode]
    exact storesWord_storeWordHigh (high := fun h => h = 0#16) hacc s.tr rfl 0

end Sys2Proof.Machine
end

section
/-! PROOFS. The family 49_sub_sysenter_sysexit.md: SUB as SBB without a borrow (R403), and SYSENTER and SYSEXIT: their checks
(R407, R409, R413, R422, R424) and what they load (R408, R410 to R412, R423, R425). -/

namespace Sys2Proof.Machine

open Ref

/-! ## The mode (10_state.md R54) -/

theorem mode_realAddress_iff (s : State) : s.mode = .realAddress ↔ s.pe = false := by
  unfold State.mode
  cases s.pe <;> cases s.flags.vm <;> simp

theorem mode_protectedMode_iff (s : State) : s.mode = .protectedMode ↔ s.pe = true ∧ s.flags.vm = false := by
  unfold State.mode
  cases s.pe <;> cases s.flags.vm <;> simp

theorem mode_virtual8086_iff (s : State) : s.mode = .virtual8086 ↔ s.pe = true ∧ s.flags.vm = true := by
  unfold State.mode
  cases s.pe <;> cases s.flags.vm <;> simp

/-! ## SUB and SBB (R403) -/

/-- Settles O52: the two rows differ in the borrow in alone, which is 0 for both. -/
theorem subIsSbbWithoutBorrow : Obligations.SubIsSbbWithoutBorrow := by
  intro i j s w dst src hi hj hcf
  have hborrow : borrowIn true s = borrowIn false s := hcf
  rw [exec_subRow hi, exec_subRow hj]
  dsimp only
  rw [hborrow]

/-! ## The facility (60_exceptions.md R470) -/

theorem fastSystemCallPresent_iff (c : Config) : fastSystemCallPresent c = true ↔ facility c := by
  simp [fastSystemCallPresent, facility, and_assoc, or_assoc, not_and_or, -not_and]

theorem fastSystemCallPresent_eq_false {c : Config} (h : ¬ facility c) : fastSystemCallPresent c = false :=
  Bool.eq_false_iff.mpr (mt (fastSystemCallPresent_iff c).mp h)

/-- Settles O40. -/
theorem facilityPredicate : Obligations.FacilityPredicate := fastSystemCallPresent_iff

/-! ## The checks (R407, R409, R413, R422, R424) -/

section
variable {s : State}

theorem execSysenter_ud (h : ¬ facility s.cfg) : execSysenter s = raise .ud :=
  if_pos (fastSystemCallPresent_eq_false h)

theorem execSysexit_ud (h : ¬ facility s.cfg) : execSysexit s = raise .ud :=
  if_pos (fastSystemCallPresent_eq_false h)

theorem execSysenter_gp (hf : facility s.cfg) (h : s.pe = false ∨ s.sysenterCs = 0#16) :
    execSysenter s = raise (.gp (some 0)) := by
  have hf := (fastSystemCallPresent_iff s.cfg).mpr hf
  rcases h with h | h <;> simp [execSysenter, hf, h]

theorem execSysexit_gp (hf : facility s.cfg) (h : s.mode ≠ .protectedMode ∨ s.sysenterCs = 0#16 ∨ s.cpl ≠ 0#2) :
    execSysexit s = raise (.gp (some 0)) := by
  have hf := (fastSystemCallPresent_iff s.cfg).mpr hf
  rcases h with h | h | h
  · cases hpe : s.pe with
    | false => simp [execSysexit, hf, hpe]
    | true =>
      have hv : s.mode = .virtual8086 := by simpa [mode_virtual8086_iff, mode_protectedMode_iff, hpe] using h
      simp [execSysexit, hf, hv]
  · simp [execSysexit, hf, h]
  · simp [execSysexit, hf, h]

theorem execSysenter_pass (hf : facility s.cfg) (hpe : s.pe = true) (hcs : s.sysenterCs ≠ 0#16) :
    execSysenter s = .next ((sysenterState s).withIntShadow false) := by
  have hf := (fastSystemCallPresent_iff s.cfg).mpr hf
  simp [execSysenter, hf, hpe, hcs, complete]

theorem execSysexit_pass (hf : facility s.cfg) (hmode : s.mode = .protectedMode) (hcpl : s.cpl = 0#2)
    (hcs : s.sysenterCs ≠ 0#16) : execSysexit s = .next ((sysexitState s).withIntShadow false) := by
  have hf := (fastSystemCallPresent_iff s.cfg).mpr hf
  obtain ⟨hpe, _⟩ := (mode_protectedMode_iff s).mp hmode
  simp [execSysexit, hf, hpe, hcs, hcpl, hmode, complete]

end

/-- Settles O43: the tests in their order, 1 to 3 being no zero. -/
theorem fastCallChecks : Obligations.FastCallChecks := by
  refine fun s => ⟨fun hf => ⟨execSysenter_ud hf, execSysexit_ud hf⟩, execSysenter_gp, execSysexit_gp,
    fun hf hmem => ?_⟩
  have hcs : s.sysenterCs ≠ 0#16 := fun h => absurd (h ▸ hmem) (by decide)
  exact ⟨fun hpe => ⟨_, execSysenter_pass hf hpe hcs⟩, fun hmode hcpl => ⟨_, execSysexit_pass hf hmode hcpl hcs⟩⟩

/-! ## The segments (R410 to R412, R425) -/

/-- G counts the 20-bit limit in pages of 4 KB (R411, 90_conflicts.md C5). -/
theorem flatSegment_byteLimit (sel : Word16) (typ : BitVec 4) (dpl : BitVec 2) :
    (flatSegment sel typ dpl).byteLimit = 0xFFFFFFFF := by
  simp [SegReg.byteLimit, flatSegment]

theorem flatSegment_flat (sel : Word16) (typ : BitVec 4) (dpl : BitVec 2) :
    flat (flatSegment sel typ dpl) sel.toNat typ.toNat dpl.toNat :=
  ⟨rfl, rfl, flatSegment_byteLimit sel typ dpl, rfl, rfl, rfl, rfl, rfl, rfl⟩

/-- `AND FFFCh`, then `OR` an RPL, replaces the low two bits. -/
theorem selector_setRpl (x : Word16) (rpl : BitVec 2) :
    (x &&& 0xFFFC#16) ||| rpl.zeroExtend 16 = x.extractLsb' 2 14 ++ rpl := by
  apply BitVec.eq_of_getLsbD_eq
  intro i hi
  rw [BitVec.getLsbD_append]
  interval_cases i <;> simp

theorem selector_setRpl_toNat (x : Word16) (rpl : BitVec 2) :
    ((x &&& 0xFFFC#16) ||| rpl.zeroExtend 16).toNat = x.toNat / 4 * 4 + rpl.toNat := by
  have hx := x.isLt
  rw [selector_setRpl, append_toNat_eq, BitVec.extractLsb'_toNat, Nat.shiftRight_eq_div_pow]
  omega

theorem selector_clearRpl_toNat (x : Word16) : (x &&& 0xFFFC#16).toNat = x.toNat / 4 * 4 := by
  simpa using selector_setRpl_toNat x 0#2

theorem sysenterCsSeg_flat (m : Word16) : flat (sysenterCsSeg m) (m.toNat / 4 * 4) 0b1011 0 :=
  selector_clearRpl_toNat m ▸ flatSegment_flat ..

/-- The sum is kept to 16 bits (U14). -/
theorem sysenterSsSeg_flat (m : Word16) : flat (sysenterSsSeg m) ((m.toNat / 4 * 4 + 8) % 65536) 0b0011 0 := by
  rw [← selector_clearRpl_toNat]
  exact flatSegment_flat ..

theorem sysexitCsSeg_flat (m : Word16) : flat (sysexitCsSeg m) ((m.toNat + 16) % 65536 / 4 * 4 + 3) 0b1011 3 :=
  selector_setRpl_toNat (m + 16#16) 3#2 ▸ flatSegment_flat ..

theorem sysexitSsSeg_flat (m : Word16) : flat (sysexitSsSeg m) ((m.toNat + 24) % 65536 / 4 * 4 + 3) 0b0011 3 :=
  selector_setRpl_toNat (m + 24#16) 3#2 ▸ flatSegment_flat ..

/-! ## What they load (R408, R423) -/

theorem fastCall_byteLimit {s t : State} (h : exec .sysenter s = .next t ∨ exec .sysexit s = .next t) :
    t.cs.byteLimit = 0xFFFFFFFF ∧ t.ss.byteLimit = 0xFFFFFFFF := by
  rcases h with h | h
  · obtain ⟨_, _, _, rfl⟩ := execSysenter_next h
    exact ⟨flatSegment_byteLimit .., flatSegment_byteLimit ..⟩
  · obtain ⟨_, _, _, _, _, rfl⟩ := execSysexit_next h
    exact ⟨flatSegment_byteLimit .., flatSegment_byteLimit ..⟩

/-- Settles O41: past its checks SYSENTER leaves `sysenterState`, read field by field. -/
theorem sysenterCompletes : Obligations.SysenterCompletes :=
  ⟨fun s hf hpe hcs => ⟨_, execSysenter_pass hf hpe hcs, sysenterState_systemKept s, fun _ => rfl, rfl, rfl,
      sysenterCsSeg_flat s.sysenterCs, sysenterSsSeg_flat s.sysenterCs, rfl,
      reg32_setReg32_self s 4#3 s.sysenterEsp, fun _ hk => reg32_setReg32_ne s s.sysenterEsp hk, rfl⟩,
    fun _ _ => fastCall_byteLimit⟩

/-- Settles O42: past its checks SYSEXIT leaves `sysexitState`, read field by field. -/
theorem sysexitCompletes : Obligations.SysexitCompletes := fun s hf hmode hcpl hcs =>
  ⟨_, execSysexit_pass hf hmode hcpl hcs, sysexitState_systemKept s, fun _ => rfl, rfl, rfl,
    sysexitCsSeg_flat s.sysenterCs, sysexitSsSeg_flat s.sysenterCs, rfl,
    reg32_setReg32_self s 4#3 (s.reg32 1#3), fun _ hk => reg32_setReg32_ne s (s.reg32 1#3) hk, rfl⟩

end Sys2Proof.Machine
end

section
/-! PROOFS. The family 60_exceptions.md: which exceptions an instruction raises and why (R442 to R450), what changes the ring
(R467 to R471), and the recognition of NMI and external interrupts (R460 to R462). -/

namespace Sys2Proof.Machine

open Ref

/-! ## The causes of a failing check (R443 to R448) -/

/-- The exceptions that the check of an access raises, each with its cause and its code. -/
def accessRaises (s : State) (a : Access) : Exception → Prop
  | .ud => False
  | .gp c => c = memoryCode s ∧ accessProtection s a
  | .ss c => c = memoryCode s ∧ a.loc.seg = .ss ∧ outsideLimit s.mode s.ss a.loc.off.toNat a.n = true
  | .pf code lin =>
    s.mode ≠ .realAddress ∧ ∃ p, s.pageFault (a.loc.lin s 0) a.n a.kind = some p ∧ code = p.code ∧ lin = p.faultLin
  | .ac c =>
    c = 0 ∧ s.mode ≠ .realAddress ∧ s.cpl = 3#2 ∧ s.cr0.getLsbD 18 = true ∧ s.flags.ac = true ∧ a.n ≠ 1 ∧
      unaligned (a.loc.lin s 0).toNat a.n = true

theorem memoryCode_of_protected {s : State} (h : s.mode = .protectedMode) : memoryCode s = some 0 := by
  simp [memoryCode, h]

/-- A single byte is always aligned (20_memory.md R73). -/
theorem ne_one_of_unaligned {a n : Nat} (h : unaligned a n = true) : n ≠ 1 := by
  rintro rfl
  cases h

/-- What is left to raise once the segment's own three checks have passed. -/
theorem accessRaises_of_inside {s : State} {a : Access} {e : Exception}
    (h : (if s.mode = .realAddress then none
      else if s.alignmentCheckApplies (a.loc.lin s 0) a.n then some (.ac 0)
      else (s.pageFault (a.loc.lin s 0) a.n a.kind).map fun p => Exception.pf p.code p.faultLin) = some e) :
    accessRaises s a e := by
  by_cases hreal : s.mode = .realAddress
  · simp [hreal] at h
  rw [if_neg hreal] at h
  by_cases halign : s.alignmentCheckApplies (a.loc.lin s 0) a.n = true
  · rw [if_pos halign] at h
    cases h
    obtain ⟨ham, hac, hcpl, hun⟩ := (alignmentCheckApplies_iff ..).mp halign
    exact ⟨rfl, hreal, hcpl, ham, hac, ne_one_of_unaligned hun, hun⟩
  · rw [if_neg halign] at h
    obtain ⟨p, hp, rfl⟩ := Option.map_eq_some_iff.mp h
    exact ⟨hreal, p, hp, rfl, rfl⟩

/-- A failing check raises by one of its causes. -/
theorem accessRaises_of_checkAccess {s : State} {a : Access} {e : Exception}
    (h : checkAccess s a.loc a.n a.kind = some e) : accessRaises s a e := by
  by_cases hnull : s.nullCheck a.loc.seg = true
  · rw [checkAccess_of_null hnull] at h
    cases h
    have hcause := (nullCheck_iff ..).mp hnull
    exact ⟨(memoryCode_of_protected hcause.1).symm, .inr (.inl hcause)⟩
  by_cases hwrite : s.writeCheck a.loc.seg a.kind = true
  · rw [checkAccess_of_nonWritable hnull hwrite] at h
    cases h
    have hcause := (writeCheck_iff ..).mp hwrite
    exact ⟨(memoryCode_of_protected hcause.1).symm, .inr (.inr hcause)⟩
  by_cases hlimit : outsideLimit s.mode (s.seg a.loc.seg) a.loc.off.toNat a.n = true
  · rw [checkAccess_of_outside hnull hwrite hlimit] at h
    by_cases hss : a.loc.seg = .ss
    · rw [if_pos hss] at h
      cases h
      rw [hss] at hlimit
      exact ⟨rfl, hss, hlimit⟩
    · rw [if_neg hss] at h
      cases h
      exact ⟨rfl, .inl ⟨hss, hlimit⟩⟩
  · rw [checkAccess_of_inside hnull hwrite hlimit] at h
    exact accessRaises_of_inside h

theorem mayRaise_of_accessRaises {s : State} {i : Instr} {a : Access} {e : Exception}
    (ha : checkedAccess s i = some a) (h : accessRaises s a e) : mayRaise s i e := by
  cases e with
  | ud => exact h.elim
  | gp c => exact .inr ⟨h.1, a, ha, h.2⟩
  | ss c => exact ⟨h.1, a, ha, h.2⟩
  | pf code lin =>
    obtain ⟨hm, p, hp⟩ := h
    exact ⟨hm, a, p, ha, hp⟩
  | ac c =>
    obtain ⟨hc, hm, hcpl, ham, hac, hun⟩ := h
    exact ⟨hc, hm, hcpl, ham, hac, a, ha, hun⟩

/-! ## The faults of each shared operation -/

/-- A fault that is an exception which `P` lists. -/
def faultsBy (P : Exception → Prop) (answer : Result) : Prop := ∀ f, answer = .fault f → ∃ e, f = .exception e ∧ P e

section
variable {P : Exception → Prop} {s : State} {go : Result}

theorem faultsBy_complete (t : State) : faultsBy P (complete t) := fun f h => absurd h (complete_ne_fault t f)

theorem faultsBy_next (t : State) : faultsBy P (.next t) := nofun

theorem faultsBy_raise {e : Exception} (h : P e) : faultsBy P (raise e) := fun f hf => ⟨e, (raise_fault e f).mp hf, h⟩

theorem faultsBy_ite {c : Prop} [Decidable c] {x y : Result} (hx : c → faultsBy P x) (hy : ¬ c → faultsBy P y) :
    faultsBy P (if c then x else y) := by
  split
  · exact hx ‹_›
  · exact hy ‹_›

theorem faultsBy_need32 (w : Width) (h : faultsBy P go) : faultsBy P (need32 s w go) := fun f hf =>
  h f (need32_fault hf)

theorem faultsBy_withAccess {l : Loc} {n : Nat} {k : AccessKind}
    (hcheck : ∀ e, accessRaises s ⟨l, n, k⟩ e → P e) (h : faultsBy P go) : faultsBy P (withAccess s l n k go) := by
  intro f hf
  rcases withAccess_fault hf with ⟨e, he, rfl⟩ | ⟨_, hf⟩
  · exact ⟨e, rfl, hcheck e (accessRaises_of_checkAccess he)⟩
  · exact h f hf

/-- What the check of an access that is there, or is not, may raise. -/
def optionRaises (s : State) (a : Option Access) (e : Exception) : Prop := ∃ b, a = some b ∧ accessRaises s b e

theorem faultsBy_withRmAccess {rm : RM} {n : Nat} {k : AccessKind}
    (hcheck : ∀ e, optionRaises s (rmAccess s rm n k) e → P e) (h : faultsBy P go) :
    faultsBy P (withRmAccess s rm n k go) := by
  cases rm with
  | reg r => exact h
  | mem m => exact faultsBy_withAccess (fun e he => hcheck e ⟨_, rfl, he⟩) h

theorem faultsBy_withSrcAccess {w : Width} {src : Src w}
    (hcheck : ∀ e, optionRaises s (srcAccess s src) e → P e) (h : faultsBy P go) :
    faultsBy P (withSrcAccess s src go) := by
  cases src with
  | imm v => exact h
  | rm r => exact faultsBy_withRmAccess hcheck h

theorem faultsBy_protectedOnly (hud : s.mode ≠ .protectedMode → P .ud) (h : s.mode = .protectedMode → faultsBy P go) :
    faultsBy P (protectedOnly s go) :=
  faultsBy_ite h fun hm => faultsBy_raise (hud hm)

theorem faultsBy_storeWord {dst : RM} (v : Word16) (hcheck : ∀ e, optionRaises s (rmAccess s dst 2 .write) e → P e) :
    faultsBy P (storeWord dst v s) :=
  faultsBy_withRmAccess hcheck (faultsBy_complete _)

theorem faultsBy_storeWordHigh {dst : RM} (high v : Word16) (d : Nat)
    (hcheck : ∀ e, optionRaises s (rmAccess s dst 2 .write) e → P e) : faultsBy P (storeWordHigh dst high v d s) := by
  cases dst with
  | reg n => exact faultsBy_complete _
  | mem m => exact faultsBy_storeWord v hcheck

theorem faultsBy_storeTable {dst : RM} (r : TableReg) (osz : Size) (hud : ∀ n, dst = .reg n → P .ud)
    (hcheck : ∀ e, optionRaises s (rmAccess s dst 6 .write) e → P e) : faultsBy P (storeTable r osz dst s) := by
  refine faultsBy_ite (fun _ => nofun) fun _ => ?_
  cases dst with
  | reg n => exact faultsBy_raise (hud n rfl)
  | mem m => exact faultsBy_withRmAccess (rm := .mem m) hcheck (faultsBy_complete _)

end

/-! ## The faults of each instruction (R449, R450) -/

theorem checkedAccess_of_protected {s : State} (i : Instr) (h : s.mode = .protectedMode) :
    checkedAccess s i = dataAccess s i := by
  unfold checkedAccess
  split <;> simp [h]

/-- A row of the six families makes the checks of its access in every mode. -/
theorem checkedAccess_of_row {i : Instr} (s : State)
    (h : (shiftRow i).isSome ∨ (dshiftRow i).isSome ∨ (subRow i).isSome ∨ (scasRow i).isSome ∨ (stosRow i).isSome ∨
      (setccRow i).isSome) : checkedAccess s i = dataAccess s i := by
  unfold checkedAccess
  split <;> first | rfl | simp [shiftRow, dshiftRow, subRow, scasRow, stosRow, setccRow] at h

/-- The check of the access an instruction makes raises what the instruction may. -/
theorem mayRaise_of_optionRaises {s : State} {i : Instr} {a : Option Access} (ha : checkedAccess s i = a) (e : Exception)
    (h : optionRaises s a e) : mayRaise s i e := by
  obtain ⟨b, hb, he⟩ := h
  exact mayRaise_of_accessRaises (ha.trans hb) he

/-- The test of STI, and the tests of SYSENTER and SYSEXIT, in the order the meanings make them. -/
theorem execSti_faultsBy (s : State) : faultsBy (mayRaise s .sti) (execSti s) :=
  faultsBy_ite (fun _ => faultsBy_next _) fun h =>
    faultsBy_raise (.inl ⟨rfl, .inl ⟨rfl, mt (stiAllowed_iff s).mpr h⟩⟩)

theorem facility_of_ne_false {c : Config} (h : ¬ fastSystemCallPresent c = false) : facility c :=
  (fastSystemCallPresent_iff c).mp (by simpa using h)

theorem not_facility_of_eq_false {c : Config} (h : fastSystemCallPresent c = false) : ¬ facility c :=
  mt (fastSystemCallPresent_iff c).mpr (by simp [h])

theorem execSysenter_faultsBy (s : State) : faultsBy (mayRaise s .sysenter) (execSysenter s) := by
  refine faultsBy_ite (fun h => faultsBy_raise (not_facility_of_eq_false h)) fun h => ?_
  have raises : s.pe = false ∨ s.sysenterCs = 0#16 → faultsBy (mayRaise s .sysenter) (raise (.gp (some 0))) :=
    fun hcause => faultsBy_raise (.inl ⟨rfl, .inr (.inl ⟨rfl, facility_of_ne_false h, hcause⟩)⟩)
  exact faultsBy_ite (fun hpe => raises (.inl hpe)) fun _ =>
    faultsBy_ite (fun hcs => raises (.inr hcs)) fun _ => faultsBy_complete _

theorem execSysexit_faultsBy (s : State) : faultsBy (mayRaise s .sysexit) (execSysexit s) := by
  refine faultsBy_ite (fun h => faultsBy_raise (not_facility_of_eq_false h)) fun h => ?_
  have raises : s.mode ≠ .protectedMode ∨ s.sysenterCs = 0#16 ∨ s.cpl ≠ 0#2 →
      faultsBy (mayRaise s .sysexit) (raise (.gp (some 0))) :=
    fun hcause => faultsBy_raise (.inl ⟨rfl, .inr (.inr ⟨rfl, facility_of_ne_false h, hcause⟩)⟩)
  refine faultsBy_ite (fun hcs => raises (.inr (.inl hcs))) fun _ => faultsBy_ite (fun hpe => raises (.inl ?real))
    fun _ => faultsBy_ite (fun hring => raises ?ring) fun _ => faultsBy_complete _
  case real => simp [mode_protectedMode_iff, hpe]
  case ring =>
    rcases hring with hcpl | hv
    · exact .inr (.inr hcpl)
    · exact .inl (by simp [hv])

theorem exec_subRow_faultsBy {i : Instr} {r : SubRow} (hr : subRow i = some r) (s : State) :
    faultsBy (mayRaise s i) (exec i s) := by
  have hchecked := checkedAccess_of_row s (i := i) (by simp [hr])
  rw [exec_subRow hr]
  refine faultsBy_need32 r.w ?_
  rcases dataAccess_subRow hr s with ⟨hd, hnone⟩ | ⟨hd, n, hreg⟩
  · refine faultsBy_withRmAccess (mayRaise_of_optionRaises (hchecked.trans hd))
      (faultsBy_withSrcAccess ?_ (faultsBy_complete _))
    rintro e ⟨b, hb, _⟩
    rw [hnone] at hb
    cases hb
  · rw [hreg]
    exact faultsBy_withSrcAccess (mayRaise_of_optionRaises (hchecked.trans hd)) (faultsBy_complete _)

/-- In protected mode SLDT and STR make their check, outside it they are #UD. -/
theorem execSldtRm32_faultsBy (dst : RM) (s : State) : faultsBy (mayRaise s (.sldtRm32 dst)) (execSldtRm32 dst s) := by
  refine faultsBy_need32 .w32 (faultsBy_protectedOnly id fun hm => ?_)
  have hcheck := mayRaise_of_optionRaises (checkedAccess_of_protected (.sldtRm32 dst) hm)
  exact faultsBy_ite (fun _ => faultsBy_storeWordHigh _ _ _ hcheck) fun _ => faultsBy_storeWordHigh _ _ _ hcheck

theorem execStrRm16_faultsBy (osz : Size) (dst : RM) (s : State) :
    faultsBy (mayRaise s (.strRm16 osz dst)) (execStrRm16 osz dst s) := by
  refine faultsBy_protectedOnly id fun hm => ?_
  have hcheck := mayRaise_of_optionRaises (checkedAccess_of_protected (.strRm16 osz dst) hm)
  cases osz with
  | s16 => exact faultsBy_storeWord _ hcheck
  | s32 => exact faultsBy_storeWordHigh _ _ _ hcheck

/-- Every fault of every instruction is one that `mayRaise` lists, by the faults of the operations it is made of. -/
theorem exec_faultsBy (i : Instr) (s : State) : faultsBy (mayRaise s i) (exec i s) := by
  have hc := instr_families i
  simp only [Option.isSome_iff_exists] at hc
  rcases hc with ⟨r, hr⟩ | ⟨r, hr⟩ | ⟨r, hr⟩ | ⟨⟨w, asz⟩, hr⟩ | ⟨⟨w, asz⟩, hr⟩ | ⟨⟨cc, dst⟩, hr⟩ | hc
  · have hchecked := checkedAccess_of_row s (i := i) (by simp [hr])
    rw [exec_shiftRow hr]
    exact faultsBy_need32 r.w (faultsBy_withRmAccess
      (mayRaise_of_optionRaises (hchecked.trans (dataAccess_shiftRow hr s)))
      (faultsBy_ite (fun _ => faultsBy_complete _) fun _ => faultsBy_complete _))
  · have hchecked := checkedAccess_of_row s (i := i) (by simp [hr])
    rw [exec_dshiftRow hr]
    exact faultsBy_need32 r.w (faultsBy_withRmAccess
      (mayRaise_of_optionRaises (hchecked.trans (dataAccess_dshiftRow hr s)))
      (faultsBy_ite (fun _ => faultsBy_complete _) fun _ =>
        faultsBy_ite (fun _ => faultsBy_complete _) fun _ => faultsBy_complete _))
  · exact exec_subRow_faultsBy hr s
  · have hchecked := checkedAccess_of_row s (i := i) (by simp [hr])
    rw [exec_scasRow hr]
    refine faultsBy_need32 w (faultsBy_withAccess (fun e he => ?_) (faultsBy_complete _))
    rw [stringLoc_eq_stringOperand] at he
    exact mayRaise_of_accessRaises (hchecked.trans (dataAccess_scasRow hr s)) he
  · have hchecked := checkedAccess_of_row s (i := i) (by simp [hr])
    rw [exec_stosRow hr]
    refine faultsBy_need32 w (faultsBy_withAccess (fun e he => ?_) (faultsBy_complete _))
    rw [stringLoc_eq_stringOperand] at he
    exact mayRaise_of_accessRaises (hchecked.trans (dataAccess_stosRow hr s)) he
  · have hchecked := checkedAccess_of_row s (i := i) (by simp [hr])
    rw [exec_setccRow hr]
    exact faultsBy_withRmAccess (mayRaise_of_optionRaises (hchecked.trans (dataAccess_setccRow hr s)))
      (faultsBy_complete _)
  · rcases hc with rfl | rfl | rfl | rfl | rfl | rfl | ⟨osz, dst, rfl⟩ | ⟨osz, dst, rfl⟩ | ⟨dst, rfl⟩ | ⟨dst, rfl⟩ |
      ⟨dst, rfl⟩ | ⟨dst, rfl⟩ | ⟨osz, dst, rfl⟩
    -- SAHF, STC and STD have nothing to check.
    iterate 3 exact faultsBy_complete _
    · exact execSti_faultsBy s
    · exact execSysenter_faultsBy s
    · exact execSysexit_faultsBy s
    · exact faultsBy_storeTable s.gdtr osz (fun n hn => hn ▸ trivial) (mayRaise_of_optionRaises rfl)
    · exact faultsBy_storeTable s.idtr osz (fun n hn => hn ▸ trivial) (mayRaise_of_optionRaises rfl)
    · exact faultsBy_protectedOnly id fun hm =>
        faultsBy_storeWord _ (mayRaise_of_optionRaises (checkedAccess_of_protected (.sldtRm16 dst) hm))
    · exact execSldtRm32_faultsBy dst s
    · exact faultsBy_storeWord _ (mayRaise_of_optionRaises rfl)
    · exact faultsBy_storeWordHigh _ _ _ (mayRaise_of_optionRaises rfl)
    · exact execStrRm16_faultsBy osz dst s

/-- Settles O17. -/
theorem onlyListedExceptions : Obligations.OnlyListedExceptions := exec_faultsBy

/-! ## The ring (R467 to R471) -/

theorem ordinary_ringKept {s t : State} {f : Eflags} (h : ordinary s t f) : ringKept s t := by
  obtain ⟨g, m, d, rfl, _⟩ := h
  simp [ringKept]

/-- No instruction writes CR0, and so PE. -/
theorem pe_of_systemKept {s t : State} (h : systemKept s t) : t.pe = s.pe := by
  obtain ⟨_, _, _, _, _, _, _, _, _, hcr0, _⟩ := h
  rw [State.pe, hcr0, State.pe]

/-- No instruction but SYSENTER writes VM. -/
theorem ordinary_vm {s : State} {i : Instr} {f : Eflags} (hkept : i ≠ .std → controlFlagsKept s.flags f)
    (hstd : i = .std → f = { s.flags with df := true }) : f.vm = s.flags.vm := by
  by_cases hi : i = .std
  · rw [hstd hi]
  · obtain ⟨_, _, _, _, _, _, hvm, _⟩ := hkept hi
    exact hvm

/-- Settles O47, by the four kinds of completion. -/
theorem ringChanges : Obligations.RingChanges := by
  intro i s t h
  refine ⟨pe_of_systemKept (systemStateNeverWritten i s t h), ?_⟩
  rcases exec_next_cases h with ⟨rfl, rfl⟩ | ⟨rfl, rfl⟩ | ⟨rfl, rfl⟩ | ⟨⟨_, henter, hexit⟩, f, ho, hkept, hstd⟩
  · exact ⟨fun _ _ => ⟨by simp [ringKept], rfl⟩, fun hlt => absurd hlt (lt_irrefl _), nofun⟩
  · exact ⟨fun hn => absurd rfl hn, fun _ => ⟨rfl, rfl, rfl⟩, nofun⟩
  · obtain ⟨_, _, hpe, hcpl, hv, _⟩ := execSysexit_next h
    have hmode : s.mode = .protectedMode := by
      simpa [mode_protectedMode_iff, mode_virtual8086_iff, hpe] using hv
    refine ⟨fun _ hn => absurd rfl hn, fun hlt => ?_, fun _ => ⟨hcpl, hmode, rfl, rfl⟩⟩
    rw [hcpl] at hlt
    exact absurd hlt (Nat.not_lt_zero _)
  · obtain ⟨_, _, hcpl, _⟩ := ordinary_ringKept ho
    exact ⟨fun _ _ => ⟨ordinary_ringKept ho, (ordinary_flags ho).symm ▸ ordinary_vm hkept hstd⟩,
      fun hlt => absurd hlt (hcpl ▸ lt_irrefl _), fun he => absurd he hexit⟩

/-! ## Interrupts (R460 to R462) -/

theorem fetchExecute_ne_interrupt (s : State) (k : InterruptKind) : fetchExecute s ≠ .fault (.interrupt k) := by
  intro h
  unfold fetchExecute at h
  split at h
  · obtain ⟨e, he, _⟩ := exec_faultsBy _ _ _ h
    cases he
  · cases (raise_fault _ _).mp h
  · cases h

/-- An interrupt is the outcome of a step exactly where the boundary recognizes it. -/
theorem step_interrupt_iff (s : State) (k : InterruptKind) :
    step s = .fault (.interrupt k) ↔ recognized (nextInput s) s = some k := by
  unfold step
  cases recognized (nextInput s) s with
  | none => simpa using fetchExecute_ne_interrupt (passBoundary s) k
  | some k' => simp

theorem recognized_nmi_iff (i : BoundaryInput) (s : State) : recognized i s = some .nmi ↔ i.nmi = true := by
  unfold recognized
  split
  · simp_all
  · split <;> simp_all

theorem recognized_external_iff (i : BoundaryInput) (s : State) :
    recognized i s = some .external ↔
      i.nmi = false ∧ i.ext = true ∧ s.flags.ifl = true ∧ s.intShadow = false := by
  unfold recognized
  split
  · simp_all
  · split <;> simp_all [and_assoc]

/-- Settles O9: instructions and fetches answer no interrupt, so the boundary alone decides. -/
theorem interruptRecognition : Obligations.InterruptRecognition := fun s =>
  ⟨(step_interrupt_iff s .nmi).trans (recognized_nmi_iff ..),
    (step_interrupt_iff s .external).trans (recognized_external_iff ..), step_of_quiet⟩

/-! ## The faults of the fetch (R452, R453) -/

theorem outsideLimit_of_not_expandDown {r : SegReg} (h : r.expandDown = false) (m : Mode) (off n : Nat) :
    outsideLimit m r off n = decide (r.byteLimit < off + n - 1) :=
  if_neg (by simp [h])

/-- Decoding sees the bytes at CS:EIP up to the CS limit. -/
theorem fetchWindow_of_limit {s : State} {bs : List Byte} {m : Nat} (hat : codeAt s bs) (hm : m < bs.length)
    (hlen : bs.length ≤ 15) (hin : codeInside s m) (hout : outsideLimit s.mode s.cs s.eip.toNat (m + 1) = true) :
    fetchWindow s = bs.take m := by
  have htake : (bs.take m).length = m := List.length_take_of_le hm.le
  have hbytes : codeAt s (bs.take m) := fun k hk => by
    rw [List.getElem_take]
    exact hat k (htake ▸ hk |>.trans hm)
  have hend : fetchBytes s (15 - m) m = [] := by
    obtain ⟨n, hn⟩ : ∃ n, 15 - m = n + 1 := ⟨14 - m, by omega⟩
    rw [hn, fetchBytes, if_pos hout]
  rw [fetchWindow_of_codeAt (by omega) hbytes (htake.symm ▸ hin), htake, hend, List.append_nil]

theorem step_of_fetch_fault {s : State} (hq : quiet s) {e : Exception} (hf : fetch (passBoundary s) = .fault e) :
    step s = .fault (.exception e) := by
  rw [step_of_quiet hq, fetchExecute, hf]
  rfl

/-- Fewer than fifteen bytes, cut short by the CS limit. -/
theorem fetch_of_truncated {s : State} (hd : decode (codeSize s) (fetchWindow s) = .error .truncated)
    (hlen : (fetchWindow s).length < maxLength) : fetch s = .fault (.gp (limitCode s.mode)) := by
  have hshort : fetch s = fetchShort s := by
    unfold fetch
    rw [hd]
  rw [hshort, fetchShort, if_pos hlen]

theorem fetch_of_pageFault {s : State} {i : Instr} {rest : List Byte} {e : PageFaultEntry}
    (hd : decode (codeSize s) (fetchWindow s) = .ok (i, rest)) (hm : s.mode ≠ .realAddress)
    (hp : s.pageFault ((codeLoc s).lin s 0) ((fetchWindow s).length - rest.length) .fetch = some e) :
    fetch s = .fault (.pf e.code e.faultLin) := by
  unfold fetch
  rw [hd]
  dsimp only
  rw [if_neg hm, hp]

/-- An encoding that the CS limit ends. -/
theorem fetch_beyond_limit {s : State} {i : Instr} (hwf : i.wf = true) (hexp : s.cs.expandDown = false)
    (hat : codeAt s (encode (codeSize s) i))
    (hlimit : s.cs.byteLimit < s.eip.toNat + (encode (codeSize s) i).length - 1) :
    fetch s = .fault (.gp (limitCode s.mode)) := by
  obtain ⟨hpos, hlen⟩ := encode_length i (codeSize s)
  have hm : s.cs.byteLimit + 1 - s.eip.toNat < (encode (codeSize s) i).length := by omega
  have hwin : fetchWindow s = (encode (codeSize s) i).take (s.cs.byteLimit + 1 - s.eip.toNat) := by
    refine fetchWindow_of_limit hat hm (hlen.trans (by omega)) (fun k hk => ?_) ?_
    · rw [outsideLimit_of_not_expandDown hexp, decide_eq_false_iff_not]
      omega
    · rw [outsideLimit_of_not_expandDown hexp, decide_eq_true_iff]
      omega
  refine fetch_of_truncated (hwin ▸ decode_take_encode (codeSize s) hwf hm) ?_
  rw [hwin, List.length_take_of_le hm.le]
  exact hm.trans_le (hlen.trans (by decide))

/-- An encoding inside the CS limit whose bytes the oracle reports a fault on. -/
theorem fetch_of_encode_pageFault {s : State} {i : Instr} {e : PageFaultEntry} (hwf : i.wf = true)
    (hin : codeInside s (encode (codeSize s) i).length) (hat : codeAt s (encode (codeSize s) i))
    (hm : s.mode ≠ .realAddress)
    (hp : s.pageFault ((codeLoc s).lin s 0) (encode (codeSize s) i).length .fetch = some e) :
    fetch s = .fault (.pf e.code e.faultLin) := by
  have hlen : (encode (codeSize s) i).length ≤ 15 := (encode_length i (codeSize s)).2.trans (by omega)
  have hwin := fetchWindow_of_codeAt hlen hat hin
  refine fetch_of_pageFault (hwin.symm ▸ decodeEncode (codeSize s) i _ hwf) hm ?_
  rwa [hwin, List.length_append, Nat.add_sub_cancel]

/-- Settles O12: bytes past the limit are cut short, and bytes inside it are read whole before the oracle is asked. -/
theorem fetchFaults : Obligations.FetchFaults := by
  intro s i hwf hq u bs hexp hat
  refine ⟨fun hlimit => step_of_fetch_fault hq (fetch_beyond_limit hwf hexp hat hlimit), fun hlimit hm e hp => ?_⟩
  have hin : codeInside u bs.length := fun k hk => by
    rw [outsideLimit_of_not_expandDown hexp, decide_eq_false_iff_not]
    omega
  exact step_of_fetch_fault hq (fetch_of_encode_pageFault hwf hin hat hm hp)

end Sys2Proof.Machine
end

section
/-! PROOFS. The family 70_reset_and_hazards.md: the invariant of a proper running state (R481), at reset, at launch and
after every step; and the one instruction that runs after STI before an interrupt is taken (R488, R489). -/

namespace Sys2Proof.Machine

open Ref

/-! ## What keeps the invariant -/

/-- The boundary writes nothing the invariant speaks of. -/
theorem inv_passBoundary {s : State} (h : s.inv) : (passBoundary s).inv := by
  obtain ⟨p, is, hs⟩ := passBoundary_eq s
  rw [hs]
  exact h

/-- EIP, all that the advance writes, stays in a 16-bit code segment where CS.D is 0 (92_eei_decisions.md D31). -/
theorem inv_afterFetch {s : State} (h : s.inv) (len : Nat) : (afterFetch s len).inv := by
  obtain ⟨hmem, hvm, hcpl, hreal, _, hshadow⟩ := h
  refine ⟨hmem, hvm, hcpl, hreal, fun hd => ?eip, hshadow⟩
  case eip =>
    have hd : s.cs.d = false := hd
    rw [afterFetch_eip_toNat, hd]
    exact Nat.mod_lt _ (by decide)

/-- IF and IntShadow aside, STI leaves everything the invariant speaks of. -/
theorem inv_sti {s : State} (h : s.inv) :
    ((s.withFlags { s.flags with ifl := true }).withIntShadow (!s.flags.ifl)).inv := by
  obtain ⟨hmem, hvm, hcpl, hreal, heip, _⟩ := h
  exact ⟨hmem, hvm, hcpl, hreal, heip, fun _ => rfl⟩

/-- SYSENTER and SYSEXIT end in protected mode with a 32-bit code segment, where only memory and IntShadow are
asked about. -/
theorem inv_of_protected {t : State} (hmem : Mem.wf t.mem) (hmode : t.mode = .protectedMode) (hd : t.cs.d = true)
    (hshadow : t.intShadow = false) : t.inv := by
  obtain ⟨_, hvm⟩ := (mode_protectedMode_iff t).mp hmode
  exact ⟨hmem, by simp [hvm], by simp [hmode], by simp [hmode], by simp [hd], by simp [hshadow]⟩

theorem ordinary_mode {s t : State} {f : Eflags} (ho : ordinary s t f) (hvmKept : f.vm = s.flags.vm) :
    t.mode = s.mode := by
  obtain ⟨g, m, d, rfl, _⟩ := ho
  simp [State.mode, State.pe, hvmKept]

theorem inv_ordinary {s t : State} {f : Eflags} (h : s.inv) (ho : ordinary s t f) (hvmKept : f.vm = s.flags.vm) :
    t.inv := by
  have hmode := ordinary_mode ho hvmKept
  obtain ⟨g, m, d, rfl, hm⟩ := ho
  obtain ⟨hmem, hvm, hcpl, hreal, heip, _⟩ := h
  exact ⟨hm hmem, hvmKept ▸ hvm, hmode ▸ hcpl, hmode ▸ hreal, heip, by simp⟩

theorem inv_exec {i : Instr} {s t : State} (h : s.inv) (he : exec i s = .next t) : t.inv := by
  rcases exec_next_cases he with ⟨rfl, rfl⟩ | ⟨rfl, rfl⟩ | ⟨rfl, rfl⟩ | ⟨_, f, ho, hkept, hstd⟩
  · exact inv_sti h
  · obtain ⟨_, hpe, _, _⟩ := execSysenter_next he
    exact inv_of_protected h.1 ((mode_protectedMode_iff _).mpr ⟨hpe, rfl⟩) rfl rfl
  · obtain ⟨_, _, hpe, _, hv, _⟩ := execSysexit_next he
    have hvm : s.flags.vm = false := by simpa [mode_virtual8086_iff, hpe] using hv
    exact inv_of_protected h.1 ((mode_protectedMode_iff _).mpr ⟨hpe, hvm⟩) rfl rfl
  · exact inv_ordinary h ho (ordinary_vm hkept hstd)

/-- Settles O56: the boundary, the fetch and the instruction each keep the invariant. -/
theorem stepKeepsInvariant : Obligations.StepKeepsInvariant := by
  intro s t h hstep
  obtain ⟨i, len, _, he⟩ := fetchExecute_next (step_next hstep).2
  exact inv_exec (inv_afterFetch (inv_passBoundary h) len) he

/-! ## Reset and launch (R480, R481) -/

theorem inv_of_launch {s : State} (h : s.launch) : s.inv := by
  obtain ⟨hvm, hcpl, hshadow, _, hreal, _, heip, hmem⟩ := h
  exact ⟨hmem, hvm, hcpl, hreal, heip, by simp [hshadow]⟩

theorem reset_real : SegReg.reset.real := ⟨rfl, rfl⟩

theorem reset_configConsistent : configConsistent State.reset.cfg := by
  refine ⟨by decide, by decide, by decide⟩

theorem reset_launch : State.reset.launch :=
  ⟨by decide, by decide, rfl, reset_configConsistent,
    fun _ => ⟨reset_real, reset_real, reset_real, reset_real, reset_real, reset_real⟩,
    by decide, by decide, wf_reset⟩

/-- Settles O57: the fixed values of reset meet the launch conditions one by one. -/
theorem resetIsProper : Obligations.ResetIsProper := ⟨reset_launch, inv_of_launch reset_launch, rfl⟩

theorem inv_of_reaches (hkeeps : ∀ s t : State, s.inv → step s = .next t → t.inv) {k : Nat} {s t : State} (h : s.inv)
    (hr : reaches k s t) : t.inv := by
  induction k generalizing s with
  | zero => exact hr ▸ h
  | succ k ih =>
    obtain ⟨u, hstep, hr⟩ := hr
    exact ih (hkeeps s u h hstep) hr

/-- Settles O58, by induction on the number of steps. -/
theorem launchHasInvariant : Obligations.LaunchHasInvariant :=
  ⟨fun _ => inv_of_launch, fun hkeeps _ _ _ hl hr => inv_of_reaches hkeeps (inv_of_launch hl) hr⟩

/-! ## The window after STI (R488, R489) -/

/-- IntShadow holds off an external interrupt, and nothing else does where IF is 1 and no NMI is pending. -/
theorem step_ne_external_of_intShadow {s : State} (h : s.intShadow = true) :
    step s ≠ .fault (.interrupt .external) := by
  rw [Ne, step_interrupt_iff, recognized_external_iff]
  simp [h]

theorem step_external {s : State} (hif : s.flags.ifl = true) (h : s.intShadow = false) (p : Option (List PageFaultEntry))
    (inp : List BoundaryInput) :
    step (s.withInputs (⟨false, true, p⟩ :: inp)) = .fault (.interrupt .external) := by
  rw [step_interrupt_iff, recognized_external_iff]
  exact ⟨rfl, rfl, hif, h⟩

/-- Settles O10: STI sets IntShadow, and the instruction after it, which finds IF 1, clears it (`shadowOnlyFromSti`). -/
theorem stiWindow : Obligations.StiWindow := by
  intro s t hif hsti
  obtain ⟨_, rfl⟩ := execSti_next hsti
  refine ⟨fun inp => step_ne_external_of_intShadow (by simp [hif]), fun i t' u hflags _ he hu p inp => ?_⟩
  have hifl : t'.flags.ifl = true := by simp [hflags]
  have hclear : u.intShadow = false := by
    simpa [hifl] using shadowOnlyFromSti i t' u he
  exact step_external hu hclear p inp

end Sys2Proof.Machine
end

section
/-! PROOFS. The family 92_eei_decisions.md: the refusals of the 16-bit processors (D2, D3). -/

namespace Sys2Proof.Machine

open Ref

/-! ## The refusals of each shared operation -/

/-- An answer that is no refusal. -/
def runs (answer : Result) : Prop := ∀ r, answer ≠ .refused r

section
variable {s : State} {go : Result}

theorem runs_complete (t : State) : runs (complete t) := complete_ne_refused t

theorem runs_raise (e : Exception) : runs (raise e) := raise_ne_refused e

theorem runs_ite {c : Prop} [Decidable c] {x y : Result} (hx : runs x) (hy : runs y) : runs (if c then x else y) := by
  split
  · exact hx
  · exact hy

theorem runs_withAccess {l : Loc} {n : Nat} {k : AccessKind} (h : runs go) : runs (withAccess s l n k go) :=
  fun r hr => h r (withAccess_refused hr).2

theorem runs_withRmAccess {rm : RM} {n : Nat} {k : AccessKind} (h : runs go) : runs (withRmAccess s rm n k go) :=
  fun r hr => h r (withRmAccess_refused hr)

theorem runs_withSrcAccess {w : Width} {src : Src w} (h : runs go) : runs (withSrcAccess s src go) := by
  cases src with
  | imm v => exact h
  | rm r => exact runs_withRmAccess h

theorem runs_protectedOnly (h : runs go) : runs (protectedOnly s go) := runs_ite h (runs_raise _)

theorem runs_storeWord (dst : RM) (v : Word16) : runs (storeWord dst v s) := runs_withRmAccess (runs_complete _)

theorem runs_storeWordHigh (dst : RM) (high v : Word16) (d : Nat) : runs (storeWordHigh dst high v d s) := by
  cases dst with
  | reg n => exact runs_complete _
  | mem m => exact runs_storeWord _ v

theorem runs_storeTable (hg : s.cfg.procGen ≠ .i8086) (r : TableReg) (osz : Size) (dst : RM) :
    runs (storeTable r osz dst s) := by
  cases dst with
  | reg n =>
    rw [storeTable_reg_ud hg]
    exact runs_raise _
  | mem m =>
    rw [storeTable, if_neg hg]
    exact runs_withAccess (runs_complete _)

end

theorem runs_execSti (s : State) : runs (execSti s) := runs_ite nofun (runs_raise _)

theorem runs_execSysenter (s : State) : runs (execSysenter s) :=
  runs_ite (runs_raise _) (runs_ite (runs_raise _) (runs_ite (runs_raise _) (runs_complete _)))

theorem runs_execSysexit (s : State) : runs (execSysexit s) :=
  runs_ite (runs_raise _) (runs_ite (runs_raise _) (runs_ite (runs_raise _) (runs_ite (runs_raise _) (runs_complete _))))

theorem runs_execStrRm16 (osz : Size) (dst : RM) (s : State) : runs (execStrRm16 osz dst s) := by
  cases osz with
  | s16 => exact runs_protectedOnly (runs_storeWord dst s.tr)
  | s32 => exact runs_protectedOnly (runs_storeWordHigh dst 0#16 s.tr 0)

/-! ## The refusals of each instruction (D2, D3) -/

/-- SGDT and SIDT, the rows that need descriptor-table registers (D2). -/
def tableRow (i : Instr) : Prop := ∃ osz dst, i = .sgdt osz dst ∨ i = .sidt osz dst

/-- The refusals of an instruction: 32-bit operands without 32-bit registers, and tables on the i8086. -/
def refusedBy (i : Instr) (s : State) (r : Refusal) : Prop :=
  (r = .no32BitOperands ∧ operand32 i = true ∧ s.cfg.procGen.has32 = false) ∨
    (r = .noDescriptorTables ∧ tableRow i ∧ s.cfg.procGen = .i8086)

/-- An instruction of another kind is refused on no processor. -/
theorem refused_iff_of_runs {i : Instr} {s : State} {r : Refusal} (h : runs (exec i s)) (hop : operand32 i = false)
    (htab : ¬ tableRow i) : exec i s = .refused r ↔ refusedBy i s r :=
  iff_of_false (h r) (by simp [refusedBy, hop, htab])

/-- An instruction of the form `need32` is refused for its 32-bit operand alone. -/
theorem refused_iff_of_need32 {i : Instr} {s : State} {r : Refusal} {w : Width} {go : Result}
    (he : exec i s = need32 s w go) (hgo : runs go) (hop : operand32 i = decide (w = .w32)) (htab : ¬ tableRow i) :
    exec i s = .refused r ↔ refusedBy i s r := by
  rw [he]
  constructor
  · intro h
    rcases need32_refused h with ⟨hr, hw, h32⟩ | h
    · exact .inl ⟨hr, hop.trans (decide_eq_true hw), h32⟩
    · exact absurd h (hgo r)
  · rintro (⟨rfl, ho, h32⟩ | ⟨_, ht, _⟩)
    · exact if_pos ⟨of_decide_eq_true (hop.symm.trans ho), h32⟩
    · exact absurd ht htab

theorem refused_iff_of_storeTable {i : Instr} {s : State} {r : Refusal} {t : TableReg} {osz : Size} {dst : RM}
    (he : exec i s = storeTable t osz dst s) (htab : tableRow i) (hop : operand32 i = false) :
    exec i s = .refused r ↔ refusedBy i s r := by
  rw [he]
  by_cases hg : s.cfg.procGen = .i8086
  · rw [storeTable_i8086 hg]
    refine ⟨fun h => .inr ⟨(Host.Outcome.refused.inj h).symm, htab, hg⟩, ?_⟩
    rintro (⟨_, ho, _⟩ | ⟨rfl, _⟩)
    · cases hop.symm.trans ho
    · rfl
  · exact iff_of_false (runs_storeTable hg t osz dst r) (by simp [refusedBy, hop, hg])

/-- A row of the six families stores no descriptor-table register. -/
theorem not_tableRow_of_row {i : Instr}
    (h : (shiftRow i).isSome ∨ (dshiftRow i).isSome ∨ (subRow i).isSome ∨ (scasRow i).isSome ∨ (stosRow i).isSome ∨
      (setccRow i).isSome) : ¬ tableRow i := by
  rintro ⟨osz, dst, rfl | rfl⟩ <;> simp [shiftRow, dshiftRow, subRow, scasRow, stosRow, setccRow] at h

theorem operand32_setccRow {i : Instr} {cc : Nat} {dst : RM} (h : setccRow i = some (cc, dst)) : operand32 i = false := by
  cases i <;> first | (cases h; done) | rfl

theorem exec_refused_iff (i : Instr) (s : State) (r : Refusal) : exec i s = .refused r ↔ refusedBy i s r := by
  have hc := instr_families i
  simp only [Option.isSome_iff_exists] at hc
  rcases hc with ⟨_, hr⟩ | ⟨_, hr⟩ | ⟨_, hr⟩ | ⟨⟨w, asz⟩, hr⟩ | ⟨⟨w, asz⟩, hr⟩ | ⟨⟨cc, dst⟩, hr⟩ | hc
  · refine refused_iff_of_need32 (exec_shiftRow hr s) (runs_withRmAccess ?_) (operand32_shiftRow hr)
      (not_tableRow_of_row (by simp [hr]))
    exact runs_ite (runs_complete _) (runs_complete _)
  · refine refused_iff_of_need32 (exec_dshiftRow hr s) (runs_withRmAccess ?_) (operand32_dshiftRow hr)
      (not_tableRow_of_row (by simp [hr]))
    exact runs_ite (runs_complete _) (runs_ite (runs_complete _) (runs_complete _))
  · exact refused_iff_of_need32 (exec_subRow hr s) (runs_withRmAccess (runs_withSrcAccess (runs_complete _)))
      (operand32_subRow hr) (not_tableRow_of_row (by simp [hr]))
  · exact refused_iff_of_need32 (exec_scasRow hr s) (runs_withAccess (runs_complete _)) (operand32_scasRow hr)
      (not_tableRow_of_row (by simp [hr]))
  · exact refused_iff_of_need32 (exec_stosRow hr s) (runs_withAccess (runs_complete _)) (operand32_stosRow hr)
      (not_tableRow_of_row (by simp [hr]))
  · refine refused_iff_of_runs ?_ (operand32_setccRow hr) (not_tableRow_of_row (by simp [hr]))
    rw [exec_setccRow hr]
    exact runs_withRmAccess (runs_complete _)
  · rcases hc with rfl | rfl | rfl | rfl | rfl | rfl | ⟨osz, dst, rfl⟩ | ⟨osz, dst, rfl⟩ | ⟨dst, rfl⟩ | ⟨dst, rfl⟩ |
      ⟨dst, rfl⟩ | ⟨dst, rfl⟩ | ⟨osz, dst, rfl⟩
    -- SAHF, STC and STD have no operand.
    iterate 3 exact refused_iff_of_runs (runs_complete _) rfl (by simp [tableRow])
    · exact refused_iff_of_runs (runs_execSti s) rfl (by simp [tableRow])
    · exact refused_iff_of_runs (runs_execSysenter s) rfl (by simp [tableRow])
    · exact refused_iff_of_runs (runs_execSysexit s) rfl (by simp [tableRow])
    · exact refused_iff_of_storeTable rfl ⟨osz, dst, .inl rfl⟩ rfl
    · exact refused_iff_of_storeTable rfl ⟨osz, dst, .inr rfl⟩ rfl
    · exact refused_iff_of_runs (runs_protectedOnly (runs_storeWord dst s.ldtr)) rfl (by simp [tableRow])
    · exact refused_iff_of_need32 (w := .w32) rfl
        (runs_protectedOnly (runs_ite (runs_storeWordHigh dst _ _ _) (runs_storeWordHigh dst _ _ _))) rfl
        (by simp [tableRow])
    · exact refused_iff_of_runs (runs_storeWord dst _) rfl (by simp [tableRow])
    · exact refused_iff_of_runs (runs_storeWordHigh dst _ _ _) rfl (by simp [tableRow])
    · exact refused_iff_of_runs (runs_execStrRm16 osz dst s) rfl (by simp [tableRow])

/-- Settles O45: the processors without 32-bit registers are the i8086 and the i286. -/
theorem oldProcessorRefusals : Obligations.OldProcessorRefusals := by
  intro i s r
  rw [← has32_eq_false_iff]
  exact exec_refused_iff i s r

end Sys2Proof.Machine
end
